-- ==== Sys2Proof/Word.lean ====
section
/-! DEFINITION. The word and index types of the Upkara 316: bus words of 16 bits and host words of 32
bits (manual, Conventions; chapter 10), and the names by which stations, slots, lines and raises are
told apart. -/

namespace Sys2Proof

/-- A share bus word (R169). -/
abbrev Word16 := BitVec 16

/-- A host port word (R172). -/
abbrev Word32 := BitVec 32

/-- A station number 0..15 (R22). -/
abbrev Station := Fin 16

/-- A slot of the offer table, 0..31 (R8). -/
abbrev Slot := Fin 32

/-- An event line EV0..EV15 (R116). -/
abbrev Line := Fin 16

/-- A raise id 0..255 (R116). -/
abbrev RaiseId := BitVec 8

/-- A set of stations as the mask of R169: bit n stands for station n. -/
abbrev StationSet := BitVec 16

/-- An event code 0..8191 (R8). Filters mask it bit by bit (R136). -/
abbrev Code := BitVec 13

/-- A priority 0..7, 7 highest (R8). -/
abbrev Priority := BitVec 3

/-- A group sequence or a tag, counting modulo 65536 (R5, R6). -/
abbrev Tag := BitVec 16

end Sys2Proof
end

