-- ==== Sys2Proof/Config.lean ====
section
/-! DEFINITION. What the part fixes for every station: the depths of its lists and queues and the
units of its timers. The manual leaves no value open that an instruction could read, so there is no
opaque constant here (see NOTES.md, Assumptions). -/

namespace Sys2Proof.Config

/-- Places in the completion queue, and the bound on reservations with it (R158, R159). -/
def completionDepth : Nat := 16

/-- Places in the fault queue (R161). -/
def faultDepth : Nat := 8

/-- Raise records (R116). -/
def raiseDepth : Nat := 8

/-- The largest take-ahead depth START accepts (R156). -/
def grantDepth : Nat := 8

/-- The unit of Ti in microseconds (R7). -/
def idleUnit : Nat := 250

/-- The unit of Tb in microseconds (R92). -/
def backoffUnit : Nat := 100

/-- Microseconds in a millisecond. -/
def milli : Nat := 1000

end Sys2Proof.Config
end

