-- ==== Sys2Proof/Syntax.lean ====
section
/-! DEFINITION. The commands of the block: one constructor for each row of spec/opcode_table.json. A
host command takes no operand of its own: it reads the ARG locations of the window as they stand when
COMMAND is written (R153). A bus event carries what the station reads from the lines at that event. -/

namespace Sys2Proof

/-- The line or raise record behind an OFFER, WITHDRAW or REVOKE purpose, and the owner of a service
timer (R84, R116). -/
inductive Source where
  /-- The line record of EVn. -/
  | line (n : Line)
  /-- The raise record with this id. -/
  | raise (id : RaiseId)
  deriving DecidableEq, Repr

/-- What a station finds on the request lines when it samples them at the close of an arbitration (R26). -/
structure Sampling where
  /-- The lines that other stations drive. -/
  others : StationSet
  /-- Whether this station's own line is found driven, if it changed near the close: either outcome is
  allowed then (R26). A line that did not change is found as it stands. -/
  own : Bool
  deriving DecidableEq, Repr

/-- The commands that reach a station: resets, host window writes, input changes, bus events and
timer expiries. -/
inductive Instr where
  /-- POWER_ON_RESET (R43): `stnId` is what STN_ID0..STN_ID3 read. -/
  | powerOnReset (stnId : Station)
  /-- SET (R155): COMMAND written with 1. -/
  | set
  /-- START (R156): COMMAND written with 2. -/
  | start
  /-- RESTART (R112): COMMAND written with 3. -/
  | restart
  /-- LEAVE (R111): COMMAND written with 4. -/
  | leave
  /-- PAUSE (R148): COMMAND written with 5. -/
  | pause
  /-- RESUME (R148): COMMAND written with 6. -/
  | resume
  /-- READ_GRANT (R142): COMMAND written with 7. -/
  | readGrant
  /-- FINISH (R143): COMMAND written with 8. -/
  | finish
  /-- RAISE (R130): COMMAND written with 9. -/
  | raise
  /-- ENABLE_LINE (R129): COMMAND written with 10. -/
  | enableLine
  /-- READ_COMPLETION (R160): COMMAND written with 11. -/
  | readCompletion
  /-- READ_FAULT (R163): COMMAND written with 12. -/
  | readFault
  /-- INSPECT (R165): COMMAND written with 13. -/
  | inspect
  /-- STATUS (R164): COMMAND written with 14. -/
  | status
  /-- UNKNOWN_COMMAND (R153): COMMAND written with `code`. -/
  | unknownCommand (code : Word32)
  /-- IRQ_MASK_WRITE (R167): IRQ_MASK written with `value`. -/
  | irqMaskWrite (value : Word32)
  /-- WINDOW_WRITE (R152): the location of word `loc` written with `value`. -/
  | windowWrite (loc : Fin 16) (value : Word32)
  /-- EVENT_LINE_CHANGE (R117): the input of `line` goes to `level` (true: high). -/
  | eventLineChange (line : Line) (level : Bool)
  /-- BUS_AT_REST (R24): the stall interval has passed with SB_FRM released and no strobe. -/
  | busAtRest
  /-- ARBITRATION_OPEN (R26): `others` are the request lines the other stations drive. -/
  | arbitrationOpen (others : StationSet)
  /-- ARBITRATION_CLOSE (R27): `lines` is what the request lines are found to be. -/
  | arbitrationClose (lines : Sampling)
  /-- FRAME_END (R31): `words` are the words read from SB_D at the strobes of the frame, check word last. -/
  | frameEnd (words : List Word16)
  /-- ATTEMPT_END (R40): the four response words as they were read. -/
  | attemptEnd (w0 w1 w2 w3 : Word16)
  /-- ATTEMPT_BROKEN (R34): the response words strobed before the stall, at most three. -/
  | attemptBroken (strobed : List Word16)
  /-- IDLE_TIMER_EXPIRY (R94). -/
  | idleTimerExpiry
  /-- DEPARTING_WAIT_EXPIRY (R41). -/
  | departingWaitExpiry
  /-- QUIET_TIMER_EXPIRY (R100). -/
  | quietTimerExpiry
  /-- JOIN_REPLY_TIMER_EXPIRY (R103). -/
  | joinReplyTimerExpiry
  /-- BACKOFF_TIMER_EXPIRY (R99). -/
  | backoffTimerExpiry
  /-- SET_ASIDE_TIMER_EXPIRY (R92): the timer of the purpose whose age is `age`. -/
  | setAsideTimerExpiry (age : Nat)
  /-- SERVICE_TIMER_EXPIRY (R125): the timer of this line or raise record. -/
  | serviceTimerExpiry (source : Source)
  deriving DecidableEq, Repr

end Sys2Proof
end

