-- ==== Sys2Proof/WellFormed.lean ====
section
/-! DEFINITION. Which commands the table's rows stand for: a term that would be another row's command
is ill formed. -/

namespace Sys2Proof

/-- UNKNOWN_COMMAND carries a code that R172 gives no command. WINDOW_WRITE is to a location other than
COMMAND and IRQ_MASK, which are rows of their own (R152). An attempt that is broken has strobed at most
three response words (R34). Every other command is well formed whatever its operands. -/
def wellFormed : Instr → Bool
  | .unknownCommand code => code.toNat == 0 || 14 < code.toNat
  | .windowWrite loc _ => loc != 0 && loc != 11
  | .attemptBroken strobed => strobed.length ≤ 3
  | .powerOnReset _ | .set | .start | .restart | .leave | .pause | .resume | .readGrant | .finish
  | .raise | .enableLine | .readCompletion | .readFault | .inspect | .status | .irqMaskWrite _
  | .eventLineChange _ _ | .busAtRest | .arbitrationOpen _ | .arbitrationClose _ | .frameEnd _
  | .attemptEnd _ _ _ _ | .idleTimerExpiry | .departingWaitExpiry | .quietTimerExpiry
  | .joinReplyTimerExpiry | .backoffTimerExpiry | .setAsideTimerExpiry _
  | .serviceTimerExpiry _ => true

end Sys2Proof
end

