-- ==== Sys2Proof/Decode.lean ====
section
/-! DEFINITION. The reading of a command from the table's bits. No row of spec/opcode_table.json gives
bits (the block is commanded through its window, its lines and its timers), so no word spells a
command. -/

namespace Sys2Proof

/-- The command that `nbits` bits `w` spell by the opcode table: none, since every row's list of
fields is empty and no row has a fixed part. -/
def decodeTableWord (_nbits _w : Nat) : Option Instr := none

end Sys2Proof
end

