-- ==== Sys2Proof/Machine/State.lean ====
section
/-! DEFINITION. The state of one Upkara 316 station as plain data, block by block as the manual's
introduction divides the part, and the state after power-on or RST_N. The offer table and the order
list are one list of entries, oldest offer first, each entry naming its slot (R8, R12). What the manual
holds twice is held once and read from there (safe, log entry 16). -/

namespace Sys2Proof.Machine

/-! ### The group record (chapter 1) -/

/-- The pair of slot and tag that names an entry (R6). -/
structure Handle where
  slot : Slot
  tag : Tag
  deriving DecidableEq, Repr

/-- The group parameters (R7); Ti in units of 250 µs. -/
structure Params where
  q : Nat
  e : Nat
  l : Nat
  v : Nat
  ti : Nat
  deriving DecidableEq, Repr

/-- An entry of the offer table (R8). Its state is CLAIMED when it has a claimant and OFFERED when it
has none (R9). -/
structure Entry where
  slot : Slot
  tag : Tag
  origin : Station
  code : Code
  priority : Priority
  targets : StationSet
  claimant : Option Station
  revokes : Nat
  orphan : Bool
  payload : Option Word32
  deriving DecidableEq, Repr

/-- The answer decided for a joiner (R15, R104). -/
inductive Verdict where
  | admitted
  | deferred
  | mismatch
  | duplicate
  deriving DecidableEq, Repr

/-- The phase of a join record (R15). -/
inductive Phase where
  | replyDue
  | sending
  deriving DecidableEq, Repr

/-- The join record (R15). -/
structure JoinRecord where
  joiner : Station
  respondent : Station
  verdict : Verdict
  phase : Phase
  cursor : Nat
  expected : Nat
  /-- The waiting list, oldest pair first. -/
  waiting : List (Station × Verdict)
  deriving DecidableEq, Repr

/-- The station's copy of the group record (chapter 1). -/
structure Record where
  members : StationSet
  /-- One miss count per station, 0 for a station outside the member set (R4). -/
  miss : Vector Nat 16
  seq : Tag
  params : Params
  /-- The offer table in order-list order: the entry at position p of the order list is element p. -/
  entries : List Entry
  join : Option JoinRecord
  deriving DecidableEq, Repr

/-! ### Frames and the bus interface (chapters 2 and 10) -/

/-- What a frame carries beyond sender, sequence and member set, one alternative for each of the
thirteen kinds (R169). The slot and payload fields of the head stand with the kinds that use them. -/
inductive Body where
  | null
  | found (params : Params)
  | join (params : Params)
  | reply (verdict : Verdict) (station : Station) (count : Nat) (miss : Vector Nat 16) (params : Params)
  | entry (position : Nat) (e : Entry)
  | close (count : Nat)
  | offer (slot : Slot) (code : Code) (priority : Priority) (targets : StationSet) (payload : Option Word32)
  | claim (h : Handle)
  | done (h : Handle)
  | withdraw (h : Handle)
  | revoke (h : Handle)
  | leave
  | beacon
  deriving DecidableEq, Repr

/-- A frame as its fields (R30). -/
structure Frame where
  sender : Station
  seq : Tag
  members : StationSet
  body : Body
  deriving DecidableEq, Repr

/-- What a field of the response window reads as (R33). -/
inductive Response where
  | silent
  | ack
  | refuse
  | abstain
  deriving DecidableEq, Repr

/-- Why a station refused (R47). -/
inductive Reason where
  | check
  | head
  | content
  deriving DecidableEq, Repr

/-- The answer a station gives in its own field, a REFUSE with the test that failed (R35, R40). -/
inductive Answer where
  | silent
  | ack
  | refuse (why : Reason)
  | abstain
  deriving DecidableEq, Repr

/-- The nine station states (R96). -/
inductive StationState where
  | offline
  | listen
  | founding
  | joining
  | syncing
  | member
  | leaving
  | departing
  | isolated
  deriving DecidableEq, Repr

/-- The record of the attempt in flight (R23). -/
structure Attempt where
  /-- The request vector sampled at the close of arbitration. -/
  vector : StationSet
  /-- The winner this station worked out. -/
  winner : Station
  /-- Whether the winner was worked out from a learned pointer (R39). -/
  winnerLearned : Bool
  /-- Whether this station's own request line was driven at the sampling (R39). -/
  requested : Bool
  /-- The station state at the close of arbitration, which decides the answer (R36, R38, R43). -/
  stateAtClose : StationState
  /-- The frame this station built at its grant; present exactly when it is the sender. -/
  driven : Option Frame
  /-- The frame is over: SB_FRM has been released. -/
  framed : Bool
  /-- The words read from SB_D, check word last. -/
  words : List Word16
  /-- The check word register over every word but the last: at a receiver of the words read, at the sender
  of the words it drives (R29, R31, R170). -/
  crc : Word16
  /-- At the sender, from the end of the frame: whether every word read back as driven (R32). -/
  readback : Option Bool
  /-- The answer this station gives, from the end of the frame. -/
  answer : Option Answer
  /-- The response words read so far. -/
  responses : List Word16
  /-- The record is to be discarded at its end without being handed on: LEAVE has moved the station to
  OFFLINE during the attempt (R24). -/
  discard : Bool
  deriving DecidableEq, Repr

/-- The bus interface (R23). -/
structure Bus where
  pointer : Station
  learned : Bool
  observing : Bool
  /-- Observing was started and the bus has not yet been found at rest (R24). -/
  awaitRest : Bool
  /-- An arbitration has opened and has not yet closed (R26). -/
  arbitrating : Bool
  /-- SB_REQn of this station is driven (R25). -/
  request : Bool
  /-- SB_REQn of this station has changed since the last arbitration opened or closed, so that either level
  may be found at the next sampling (R26). -/
  requestChanged : Bool
  attempt : Option Attempt
  deriving DecidableEq, Repr

/-! ### Timers -/

/-- A timer: stopped, or running for the number of microseconds it was started with. Its expiry is a
command. DESIGN CHOICE: the command may come at any time while the timer runs (safe, log entry 4). -/
abbrev Timer := Option Nat

/-! ### The agenda (chapter 5) -/

/-- The kinds of purpose with the fields each carries (R84). -/
inductive Aim where
  | duty
  | leave
  | done (h : Handle)
  | revoke (h : Handle) (timed : Station) (source : Source)
  | withdraw (h : Handle) (line : Line)
  | claim
  | offer (source : Source) (priority : Priority)
  | join
  | found
  | beacon
  | departureNull
  deriving DecidableEq, Repr

/-- A purpose (R84). Its age is the number of purposes added before it. -/
structure Purpose where
  aim : Aim
  age : Nat
  count : Nat
  /-- The set-aside: absent, or the Tb timer running. -/
  setAside : Timer
  deriving DecidableEq, Repr

/-- The sent purpose of the attempt in flight, with the slot and sequence handed to the origin unit
for an OFFER (R84, R90). -/
structure Sent where
  purpose : Purpose
  offered : Option Handle
  deriving DecidableEq, Repr

/-- The agenda (R84, R94). -/
structure Agenda where
  purposes : List Purpose
  /-- The age the next purpose takes. -/
  nextAge : Nat
  sent : Option Sent
  idle : Timer
  deriving DecidableEq, Repr

/-! ### The membership controller (chapter 6) -/

/-- Why a station is departing (R96). -/
inductive DepartingCause where
  | desync
  | restart
  | leave
  deriving DecidableEq, Repr

/-- What follows the backoff timer's expiry (R96). -/
inductive FollowOn where
  | listen
  | sendJoin
  deriving DecidableEq, Repr

/-- The membership controller (R96). -/
structure Control where
  state : StationState
  cause : Option DepartingCause
  quiet : Timer
  joinReply : Timer
  /-- The backoff timer with its follow-on. -/
  backoff : Option (Nat × FollowOn)
  /-- A readable head was observed in LISTEN while the backoff timer ran (R99). -/
  headNoted : Bool
  /-- The DEPARTING wait (R41). -/
  wait : Timer
  /-- The foreign-attempt flag (R100). -/
  foreign : Bool
  /-- The admission note with its count (R99). -/
  note : Option Nat
  deriving DecidableEq, Repr

/-! ### The origin unit (chapter 7) -/

/-- How a line's input is read (R117). -/
inductive LineMode where
  | levelHigh
  | levelLow
  | edgeRise
  | edgeFall
  deriving DecidableEq, Repr

/-- Where a line stands (R116). -/
inductive LineState where
  | disabled
  | idle
  | want
  | offered
  | served
  | holdoff
  deriving DecidableEq, Repr

/-- A line record with its service timer (R116). The first six fields are the line's items of the
configuration store (R155); the timeout is in milliseconds. -/
structure LineRecord where
  enabled : Bool
  mode : LineMode
  code : Code
  priority : Priority
  targets : StationSet
  timeout : Nat
  state : LineState
  memo : Bool
  handle : Option Handle
  timer : Timer
  deriving DecidableEq, Repr

/-- Where a raise stands (R116). -/
inductive RaiseState where
  | queued
  | offered
  | served
  deriving DecidableEq, Repr

/-- A raise record with its service timer (R116). -/
structure RaiseRecord where
  id : RaiseId
  code : Code
  priority : Priority
  targets : StationSet
  payload : Word32
  timeout : Nat
  state : RaiseState
  handle : Option Handle
  timer : Timer
  deriving DecidableEq, Repr

/-- The origin unit (R116). -/
structure Origin where
  /-- The level each input was last seen at: bit n for EVn, 1 for high. -/
  levels : Word16
  lines : Vector LineRecord 16
  /-- The raise list, oldest first. -/
  raises : List RaiseRecord
  nextRaise : RaiseId
  deriving DecidableEq, Repr

/-! ### The claim unit (chapter 8) -/

/-- An interest filter (R135). -/
structure Filter where
  enabled : Bool
  base : Code
  mask : Code
  deriving DecidableEq, Repr

/-- How far the host has got with a grant (R141). -/
inductive GrantState where
  | unread
  | inService
  | finishing
  deriving DecidableEq, Repr

/-- A grant record (R141). A record holds a completion reservation exactly while it is IN_SERVICE or
FINISHING, so the field `reservation` of the manual is read from the state. -/
structure Grant where
  handle : Handle
  code : Code
  priority : Priority
  origin : Station
  payload : Option Word32
  state : GrantState
  deriving DecidableEq, Repr

/-- The claim unit (R135). The CLAIM standing is read from the agenda, and D is an item of the store. -/
structure Claim where
  filters : Vector Filter 4
  paused : Bool
  /-- The grant list in claim order. -/
  grants : List Grant
  deriving DecidableEq, Repr

/-! ### The host port (chapter 9) -/

/-- The items of the configuration store that are neither a line's nor a filter's, and the lock
(R155). Ti in units of 250 µs, Tq and the raise default timeout in milliseconds. -/
structure Store where
  q : Nat
  e : Nat
  l : Nat
  v : Nat
  ti : Nat
  tq : Nat
  d : Nat
  raiseTimeout : Nat
  locked : Bool
  deriving DecidableEq, Repr

/-- A completion record: each of the pairs of kind and outcome that R158 gives, with what it names. -/
inductive Completion where
  | finishDoneTaken (h : Handle)
  | finishLate (h : Handle)
  | grantLostRevoked (h : Handle)
  | grantLostDeparted (h : Handle)
  | raiseServiced (id : RaiseId)
  | raiseDropped (id : RaiseId)
  | raiseDiscarded (id : RaiseId)
  | leaveLeft
  | leaveAbandoned
  deriving DecidableEq, Repr

/-- The fault kinds (R162). -/
inductive FaultKind where
  | retryLimit
  | evicted
  | desync
  | configMismatch
  | duplicateStation
  | duplicateSeen
  | serviceFailed
  | joinTimeout
  | foundRefused
  | memberDeparted
  deriving DecidableEq, Repr

/-- The cause of a departure as a report names it (R83). -/
inductive DepartureCause where
  | left
  | evicted
  | abstained
  deriving DecidableEq, Repr

/-- A fault record (R161). -/
structure FaultRecord where
  kind : FaultKind
  stamp : Word32
  station : Option Station
  slot : Option Slot
  line : Option Line
  seq : Option Tag
  cause : Option DepartureCause
  deriving DecidableEq, Repr

/-- The host port: the window's stored locations, the configuration store, the two queues with the
reservations, the STATE cause, the mask and the clock (R152, R155, R158, R159, R161, R166, R167). -/
structure Port where
  command : Word32
  arg0 : Word32
  arg1 : Word32
  arg2 : Word32
  arg3 : Word32
  result0 : Word32
  result1 : Word32
  result2 : Word32
  result3 : Word32
  store : Store
  /-- The completion queue, oldest first. -/
  completions : List Completion
  /-- Completion reservations held. -/
  reserved : Nat
  /-- The fault queue, oldest first. -/
  faults : List FaultRecord
  overflow : Bool
  /-- The STATE interrupt cause. The other three causes are read from what they follow (R166). -/
  stateCause : Bool
  /-- The enables of IRQ_MASK: bits 3..0 are STATE, FAULT, COMPLETION, GRANT. -/
  mask : BitVec 4
  /-- The microsecond clock. -/
  clock : Word32
  deriving DecidableEq, Repr

/-! ### The station -/

/-- One station. -/
structure State where
  /-- The station number read from STN_ID0..STN_ID3 (R22). -/
  number : Station
  bus : Bus
  /-- The station's copy of the group record, absent in the states that hold none (R1). -/
  record : Option Record
  agenda : Agenda
  control : Control
  origin : Origin
  claim : Claim
  port : Port
  /-- The commands that are waiting, first in, first out. DESIGN CHOICE: the queue is filled from outside the
  machine (safe, log entry 22). -/
  pending : List Instr
  deriving DecidableEq, Repr

/-- Conditions on which the block stops. There is none: the manual gives every command an effect in
every state, so the type has no constructor and no command can end a run in a fault (safe). -/
inductive Fault where
  deriving DecidableEq, Repr

/-- Why a command has no meaning in the model. -/
inductive Refusal where
  /-- Raised by exec's arm of a command that is not modelled yet; no arm raises it (safe: the run
  stops where the part would go on). -/
  | notModelled (mnemonic : String)
  deriving DecidableEq, Repr

/-! ### Replacing one block -/

/-- The state with another bus interface. -/
def State.setBus (s : State) (x : Bus) : State := { s with bus := x }
/-- The state with another copy of the group record. -/
def State.setRecord (s : State) (x : Option Record) : State := { s with record := x }
/-- The state with another agenda. -/
def State.setAgenda (s : State) (x : Agenda) : State := { s with agenda := x }
/-- The state with another membership controller. -/
def State.setControl (s : State) (x : Control) : State := { s with control := x }
/-- The state with another origin unit. -/
def State.setOrigin (s : State) (x : Origin) : State := { s with origin := x }
/-- The state with another claim unit. -/
def State.setClaim (s : State) (x : Claim) : State := { s with claim := x }
/-- The state with another host port. -/
def State.setPort (s : State) (x : Port) : State := { s with port := x }
/-- The state with another queue of waiting commands. -/
def State.setPending (s : State) (x : List Instr) : State := { s with pending := x }

/-! ### Reset values -/

/-- The bus interface after power-on or RST_N (R23). -/
def Bus.reset : Bus :=
  { pointer := 0, learned := false, observing := false, awaitRest := false, arbitrating := false,
    request := false, requestChanged := false, attempt := none }

/-- The agenda after power-on or RST_N (R84, R94). -/
def Agenda.reset : Agenda := { purposes := [], nextAge := 0, sent := none, idle := none }

/-- The membership controller after power-on or RST_N (R96). -/
def Control.reset : Control :=
  { state := .offline, cause := none, quiet := none, joinReply := none, backoff := none,
    headNoted := false, wait := none, foreign := false, note := none }

/-- A line record with the default configuration (R116, R155). -/
def LineRecord.reset : LineRecord :=
  { enabled := false, mode := .levelHigh, code := 0, priority := 0, targets := 0, timeout := 0,
    state := .disabled, memo := false, handle := none, timer := none }

/-- The origin unit after power-on or RST_N (R116). -/
def Origin.reset : Origin :=
  { levels := 0, lines := Vector.replicate 16 LineRecord.reset, raises := [], nextRaise := 0 }

/-- The claim unit after power-on or RST_N (R135). -/
def Claim.reset : Claim :=
  { filters := Vector.replicate 4 { enabled := false, base := 0, mask := 0 }, paused := false,
    grants := [] }

/-- The configuration store after power-on or RST_N (R155, R135). -/
def Store.reset : Store :=
  { q := 8, e := 3, l := 8, v := 3, ti := 4, tq := 4, d := 2, raiseTimeout := 100, locked := false }

/-- The host port after power-on or RST_N (R152, R158, R159, R161, R166, R167). -/
def Port.reset : Port :=
  { command := 0, arg0 := 0, arg1 := 0, arg2 := 0, arg3 := 0, result0 := 0, result1 := 0,
    result2 := 0, result3 := 0, store := Store.reset, completions := [], reserved := 0, faults := [],
    overflow := false, stateCause := false, mask := 0, clock := 0 }

/-- The station right after reset. The manual reads the number and the input levels from pins;
DESIGN CHOICE: the pins read station number 0 and every input low (unsafe, log entries 1 and 2). -/
def State.reset : State :=
  { number := 0, bus := Bus.reset, record := none, agenda := Agenda.reset, control := Control.reset,
    origin := Origin.reset, claim := Claim.reset, port := Port.reset, pending := [] }

end Sys2Proof.Machine
end

