-- ==== Sys2Proof/Machine/Clock.lean ====
section
/-! DEFINITION. The passing of time on an empty queue: the microsecond clock of the host port (R161). -/

namespace Sys2Proof.Machine

/-- One microsecond: the clock counts on and wraps at 2 to the power 32 (R161). -/
def tick (s : State) : State := s.setPort { s.port with clock := s.port.clock + 1 }

end Sys2Proof.Machine
end

