-- ==== Sys2Proof/Machine/Sets.lean ====
section
/-! DEFINITION. Sets of stations as 16-bit masks (R169), and taking a field out of a word. -/

namespace Sys2Proof.Machine

/-- Whether the set holds station n. -/
def setHas (m : StationSet) (n : Station) : Bool := m.getLsbD n.val

/-- The set of the one station n. -/
def setOne (n : Station) : StationSet := 1#16 <<< n.val

/-- The set with station n in it. -/
def setAdd (m : StationSet) (n : Station) : StationSet := m ||| setOne n

/-- The set without station n. -/
def setDrop (m : StationSet) (n : Station) : StationSet := m &&& ~~~(setOne n)

/-- The stations of the set in ascending number. -/
def setList (m : StationSet) : List Station := (List.finRange 16).filter (setHas m)

/-- The lowest-numbered station of the set other than n: who is respondent to the joiner n (R16). -/
def lowestOther (m : StationSet) (n : Station) : Option Station :=
  (setList m).find? (fun x => x != n)

/-- The field of `width` bits whose lowest bit is `lo`. -/
def field (lo width : Nat) {n : Nat} (w : BitVec n) : BitVec width := w.extractLsb' lo width

/-- The station whose number is in a four-bit field. -/
def stationOf (b : BitVec 4) : Station := b.toFin

/-- The four-bit field that carries a station number. -/
def stationBits (n : Station) : BitVec 4 := BitVec.ofFin n

/-- The slot whose number is in a five-bit field. -/
def slotOf (b : BitVec 5) : Slot := b.toFin

/-- The five-bit field that carries a slot number. -/
def slotBits (k : Slot) : BitVec 5 := BitVec.ofFin k

end Sys2Proof.Machine
end

