-- ==== Sys2Proof/Machine/Frames.lean ====
section
/-! DEFINITION. Frames as words: the layouts of R169, the check word of R170, when a frame is good
(R31), and the response window (R33, R171). -/

namespace Sys2Proof.Machine

/-! ### The check word -/

/-- One step of the check word register with the incoming data bit `b` (R170). -/
def crcBit (c : Word16) (b : Bool) : Word16 :=
  if c.msb ^^ b then (c <<< 1) ^^^ 0x1021#16 else c <<< 1

/-- The register after one word, most significant bit first (R170). -/
def crcWord (c : Word16) (w : Word16) : Word16 :=
  (List.range 16).foldl (fun r i => crcBit r (w.getMsbD i)) c

/-- The check word of the words of a frame before it (R170). -/
def checkWord (ws : List Word16) : Word16 := ws.foldl crcWord 0xFFFF#16

/-! ### Bodies as words -/

/-- The code of a frame kind (R169). -/
def kindCode : Body → BitVec 4
  | .null => 0
  | .found _ => 1
  | .join _ => 2
  | .reply .. => 3
  | .entry .. => 4
  | .close _ => 5
  | .offer .. => 6
  | .claim _ => 7
  | .done _ => 8
  | .withdraw _ => 9
  | .revoke _ => 10
  | .leave => 11
  | .beacon => 12

/-- The slot a head carries: 0 for the kinds that act on no slot (R30). -/
def bodySlot : Body → Slot
  | .entry _ e => e.slot
  | .offer k .. => k
  | .claim h | .done h | .withdraw h | .revoke h => h.slot
  | .null | .found _ | .join _ | .reply .. | .close _ | .leave | .beacon => 0

/-- The payload that follows a body, for OFFER and ENTRY (R30). -/
def bodyPayload : Body → Option Word32
  | .entry _ e => e.payload
  | .offer _ _ _ _ p => p
  | _ => none

/-- The payload as two bus words, bits 31 to 16 first (R169). -/
def payloadWords : Option Word32 → List Word16
  | none => []
  | some p => [field 16 16 p, field 0 16 p]

/-- The code of a verdict in a REPLY (R169). -/
def verdictBits : Verdict → BitVec 2
  | .admitted => 0
  | .deferred => 1
  | .mismatch => 2
  | .duplicate => 3

/-- The verdict a code names (R169). -/
def verdictOf (b : BitVec 2) : Verdict :=
  if b = 0 then .admitted else if b = 1 then .deferred else if b = 2 then .mismatch else .duplicate

/-- The two parameter words (R169). -/
def paramWords (p : Params) : List Word16 :=
  [BitVec.ofNat 5 (p.q - 1) ++ BitVec.ofNat 3 p.e ++ BitVec.ofNat 3 p.v ++ BitVec.ofNat 4 p.l ++ 0#1,
   BitVec.ofNat 8 p.ti ++ 0#8]

/-- The parameters two words decode to (R169). -/
def paramsOf (w0 w1 : Word16) : Params :=
  { q := (field 11 5 w0).toNat + 1, e := (field 8 3 w0).toNat, v := (field 5 3 w0).toNat,
    l := (field 1 4 w0).toNat, ti := (field 8 8 w1).toNat }

/-- The three words of the sixteen miss counts, station 0 in the highest three bits (R169). -/
def missWords (m : Vector Nat 16) : List Word16 :=
  let s : BitVec 48 := (List.finRange 16).foldl (fun a n => (a <<< 3) ||| BitVec.ofNat 48 (m[n] % 8)) 0
  [field 32 16 s, field 16 16 s, field 0 16 s]

/-- The sixteen miss counts three words carry (R169). -/
def missOf (w1 w2 w3 : Word16) : Vector Nat 16 :=
  let s : BitVec 48 := w1 ++ w2 ++ w3
  Vector.ofFn (fun n => (field (45 - 3 * n.val) 3 s).toNat)

/-- The body words of a frame (R169). -/
def bodyWords : Body → List Word16
  | .null | .leave | .beacon => []
  | .found p | .join p => paramWords p
  | .reply v n c m p =>
      (verdictBits v ++ stationBits n ++ BitVec.ofNat 6 c ++ 0#4) :: (missWords m ++ paramWords p)
  | .entry pos e =>
      [BitVec.ofNat 5 pos ++ BitVec.ofNat 3 e.revokes ++ BitVec.ofBool e.claimant.isSome ++
          BitVec.ofBool e.orphan ++ stationBits e.origin ++ 0#2,
        e.tag, e.code ++ e.priority, e.targets, stationBits (e.claimant.getD 0) ++ 0#12] ++
        payloadWords e.payload
  | .close c => [BitVec.ofNat 16 c]
  | .offer _ code prio ts p => [code ++ prio, ts] ++ payloadWords p
  | .claim h | .done h | .withdraw h | .revoke h => [h.tag]

/-- The three head words (R30, R169). -/
def headWords (f : Frame) : List Word16 :=
  [kindCode f.body ++ stationBits f.sender ++ slotBits (bodySlot f.body) ++
      BitVec.ofBool (bodyPayload f.body).isSome ++ 0#2,
    f.seq, f.members]

/-- The words a sender drives: head, body, check word (R29). -/
def encodeFrame (f : Frame) : List Word16 :=
  let ws := headWords f ++ bodyWords f.body
  ws ++ [checkWord ws]

/-! ### Words as bodies -/

/-- The payload that the words after a body carry: none without the payload flag, two words with it. -/
def payloadOf (flag : Bool) : List Word16 → Option (Option Word32)
  | [] => if flag then none else some none
  | [hi, lo] => if flag then some (some (hi ++ lo)) else none
  | _ => none

/-- The entry an ENTRY carries in head and body (R108, R169). Its claimant is read when its state is
CLAIMED. -/
def entryOf (slot : Slot) (w0 tag w2 targets w4 : Word16) (p : Option Word32) : Entry :=
  { slot := slot, tag := tag, origin := stationOf (field 2 4 w0), code := field 3 13 w2,
    priority := field 0 3 w2, targets := targets,
    claimant := if w0.getLsbD 7 then some (stationOf (field 12 4 w4)) else none,
    revokes := (field 8 3 w0).toNat, orphan := w0.getLsbD 6, payload := p }

/-- The body that a kind code, the head's slot and payload flag and the body words spell, if the code
names a kind and the number of words is that of the kind (R31, R169). -/
def bodyOf (kind : BitVec 4) (slot : Slot) (flag : Bool) (ws : List Word16) : Option Body :=
  match kind.toNat, ws with
  | 0, [] => some .null
  | 1, [p0, p1] => some (.found (paramsOf p0 p1))
  | 2, [p0, p1] => some (.join (paramsOf p0 p1))
  | 3, [w0, w1, w2, w3, p0, p1] =>
      some (.reply (verdictOf (field 14 2 w0)) (stationOf (field 10 4 w0)) (field 4 6 w0).toNat
        (missOf w1 w2 w3) (paramsOf p0 p1))
  | 4, w0 :: w1 :: w2 :: w3 :: w4 :: rest =>
      (payloadOf flag rest).map fun p =>
        .entry (field 11 5 w0).toNat (entryOf slot w0 w1 w2 w3 w4 p)
  | 5, [w] => some (.close w.toNat)
  | 6, w0 :: w1 :: rest =>
      (payloadOf flag rest).map fun p => .offer slot (field 3 13 w0) (field 0 3 w0) w1 p
  | 7, [t] => some (.claim ⟨slot, t⟩)
  | 8, [t] => some (.done ⟨slot, t⟩)
  | 9, [t] => some (.withdraw ⟨slot, t⟩)
  | 10, [t] => some (.revoke ⟨slot, t⟩)
  | 11, [] => some .leave
  | 12, [] => some .beacon
  | _, _ => none

/-- The frame that head words and body words spell (R30, R31). -/
def frameOfWords : List Word16 → Option Frame
  | h0 :: seq :: members :: body =>
      (bodyOf (field 12 4 h0) (slotOf (field 3 5 h0)) (h0.getLsbD 2) body).map fun b =>
        { sender := stationOf (field 8 4 h0), seq := seq, members := members, body := b }
  | _ => none

/-- The frame a receiver takes in, when it is good: at least four words, a kind that exists, the length
of that kind, and the check word of the words before it (R31). -/
def decodeFrame (ws : List Word16) : Option Frame :=
  match ws.getLast? with
  | none => none
  | some c => if c = checkWord ws.dropLast then frameOfWords ws.dropLast else none

/-! ### The response window -/

/-- What a four-bit field of the window reads as: code part in the upper two bits, inverted part in
the lower two (R33). A field of which both parts read 00 is SILENT. DEDUCED: code 00 with inverted part
11 is none of ACK, REFUSE, ABSTAIN, so it falls under "any other combination" (unsafe, log entry 6). -/
def readField (b : BitVec 4) : Response :=
  if b = 0b0000#4 then .silent
  else if b = 0b0110#4 then .ack
  else if b = 0b1100#4 then .abstain
  else .refuse

/-- What a station drives in its field for an answer (R33): nothing for SILENT. -/
def fieldBits : Answer → BitVec 4
  | .silent => 0b0000#4
  | .ack => 0b0110#4
  | .refuse _ => 0b1001#4
  | .abstain => 0b1100#4

/-- The field of station n in the response words strobed; a field in a word that was not strobed
reads as REFUSE (R34, R171). -/
def windowField (ws : List Word16) (n : Station) : Response :=
  match ws[n.val / 4]? with
  | some w => readField (field (12 - 4 * (n.val % 4)) 4 w)
  | none => .refuse

/-- The sixteen fields as read (R40). -/
def windowFields (ws : List Word16) : Vector Response 16 := Vector.ofFn (windowField ws)

end Sys2Proof.Machine
end

