-- ==== Sys2Proof/Machine/GroupRecord.lean ====
section
/-! DEFINITION. The group record: the questions it answers (R13), the content checks of the thirteen
frame kinds, what each kind changes when it is applied, and the departure effects (chapters 1, 4, 6). -/

namespace Sys2Proof.Machine

/-! ### Questions (R13) -/

/-- The entry in a slot of the offer table. -/
def entryAt (r : Record) (k : Slot) : Option Entry := r.entries.find? (fun e => e.slot == k)

/-- The entry a handle names: the slot is occupied and its tag is the one given (R6). -/
def entryNamed (r : Record) (h : Handle) : Option Entry :=
  (entryAt r h.slot).filter (fun e => e.tag == h.tag)

/-- The lowest-numbered free slot (R13). -/
def lowestFree (r : Record) : Option Slot :=
  (List.finRange 32).find? (fun k => (entryAt r k).isNone)

/-- The quota count of a station: its entries that are not orphans (R14). -/
def quotaCount (r : Record) (n : Station) : Nat :=
  (r.entries.filter (fun e => e.origin == n && !e.orphan)).length

/-- Whether a freeze stands: a join record with verdict ADMITTED exists (R19). -/
def frozen (r : Record) : Bool :=
  match r.join with
  | some j => j.verdict == .admitted
  | none => false

/-- Whether station n is the joiner a snapshot is being sent to in this copy (R13). The copy of a
station that is named joiner with verdict ADMITTED is its own partial table. -/
def isJoiner (n : Station) (r : Record) : Bool :=
  match r.join with
  | some j => j.joiner == n && j.verdict == .admitted
  | none => false

/-- Whether station n is respondent in this copy (R13). -/
def isRespondent (n : Station) (r : Record) : Bool :=
  match r.join with
  | some j => j.respondent == n
  | none => false

/-! ### What changes in an entry -/

/-- What became of an entry in a judgement (R61, R83). -/
inductive Became where
  | created
  | claimed (by_ : Station)
  | returnedByRevoke
  | removedByDone
  | removedByWithdraw
  | removedByRevoke
  | returnedByDeparture (departed : Station)
  | removedByClaimantDeparture (departed : Station)
  | removedByOriginDeparture (departed : Station)
  | orphaned (departed : Station)
  deriving DecidableEq, Repr

/-- One line of a report: the entry as it stood before the change (for `created`, as it stands after)
and what became of it. -/
structure EntryChange where
  entry : Entry
  became : Became
  deriving DecidableEq, Repr

/-- The copy while a judgement works on it, with the departures and changes so far, in order. -/
structure Tally where
  record : Record
  departures : List (Station × DepartureCause)
  changes : List EntryChange
  deriving DecidableEq, Repr

/-- The copy with the entry of a slot changed in its place (R12). -/
def changeEntry (r : Record) (k : Slot) (f : Entry → Entry) : Record :=
  { r with entries := r.entries.map (fun e => if e.slot = k then f e else e) }

/-- The copy with the entry of a slot removed and the order list closed up (R12). -/
def removeEntry (r : Record) (k : Slot) : Record :=
  { r with entries := r.entries.filter (fun e => e.slot != k) }

/-! ### The join record (R16 to R18) -/

/-- What remains when the joiner's part ends: the oldest waiting pair promoted, or nothing (R18). -/
def endJoinerPart (members : StationSet) (j : JoinRecord) : Option JoinRecord :=
  match j.waiting with
  | [] => none
  | (n, v) :: rest =>
    (lowestOther members n).map fun p =>
      { joiner := n, respondent := p, verdict := v, phase := .replyDue, cursor := 0, expected := 0,
        waiting := rest }

/-- The verdict the recorded join record holds for a station it names (R107). -/
def verdictFor (j : JoinRecord) : Verdict :=
  match j.waiting with
  | (_, v) :: _ => v
  | [] => j.verdict

/-- The station the next REPLY names: the oldest waiting pair's, or the joiner (R106). -/
def stationToTell (j : JoinRecord) : Station :=
  match j.waiting with
  | (n, _) :: _ => n
  | [] => j.joiner

/-! ### Departure effects (R78 to R82) -/

/-- An entry after the departure of x from the member set `m` it leaves behind, claimant's side (R80). -/
def claimantSide (x : Station) (m : StationSet) (e : Entry) : Option Entry :=
  if e.claimant = some x then
    if !e.orphan && setHas m e.origin then some { e with claimant := none } else none
  else some e

/-- The report's line for `claimantSide` (R80). -/
def claimantSideChange (x : Station) (m : StationSet) (e : Entry) : Option EntryChange :=
  if e.claimant = some x then
    if !e.orphan && setHas m e.origin then some ⟨e, .returnedByDeparture x⟩
    else some ⟨e, .removedByClaimantDeparture x⟩
  else none

/-- An entry after the departure of x, origin's side (R81). -/
def originSide (x : Station) (e : Entry) : Option Entry :=
  if e.origin = x && !e.orphan then
    if e.claimant.isSome then some { e with orphan := true } else none
  else some e

/-- The report's line for `originSide` (R81). -/
def originSideChange (x : Station) (e : Entry) : Option EntryChange :=
  if e.origin = x && !e.orphan then
    if e.claimant.isSome then some ⟨e, .orphaned x⟩ else some ⟨e, .removedByOriginDeparture x⟩
  else none

/-- The join record after the departure of x, with the member set x leaves behind (R82). A waiting
pair of x with verdict DUPLICATE goes first, so that it is not promoted. -/
def departJoin (x : Station) (m : StationSet) (j₀ : JoinRecord) : Option JoinRecord :=
  let j := { j₀ with waiting := j₀.waiting.filter (fun p => !(p.1 == x && p.2 == .duplicate)) }
  if j.joiner = x then endJoinerPart m j
  else
    (lowestOther m j.joiner).map fun p =>
      let j := if j.respondent = x then { j with respondent := p } else j
      if j.verdict = .admitted then { j with phase := .replyDue, cursor := 0, expected := 0 } else j

/-- The departure effects for x in their four steps (R78 to R82). -/
def departEffects (x : Station) (r : Record) : Record :=
  let m := setDrop r.members x
  { r with
    members := m
    miss := r.miss.set x.val 0
    entries := (r.entries.filterMap (claimantSide x m)).filterMap (originSide x)
    join := r.join.bind (departJoin x m) }

/-- The report's lines for the departure of x (R83). -/
def departChanges (x : Station) (r : Record) : List EntryChange :=
  let m := setDrop r.members x
  r.entries.filterMap (claimantSideChange x m) ++
    (r.entries.filterMap (claimantSide x m)).filterMap (originSideChange x)

/-- One departure within a judgement (R78, R83). -/
def departOne (cause : DepartureCause) (t : Tally) (x : Station) : Tally :=
  { record := departEffects x t.record
    departures := t.departures ++ [(x, cause)]
    changes := t.changes ++ departChanges x t.record }

/-! ### Content checks -/

/-- The checks of CLAIM on the entry named (R66). -/
def claimable (sender : Station) (e : Entry) : Bool := e.claimant.isNone && setHas e.targets sender

/-- The checks of DONE on the entry named (R68). -/
def doneable (sender : Station) (e : Entry) : Bool := e.claimant == some sender

/-- The checks of WITHDRAW on the entry named (R70). -/
def withdrawable (sender : Station) (e : Entry) : Bool := e.claimant.isNone && e.origin == sender

/-- The checks of REVOKE on the entry named (R72). -/
def revocable (sender : Station) (e : Entry) : Bool :=
  e.claimant.isSome && !e.orphan && e.origin == sender

/-- A frame that acts on an entry: from a member, no freeze, an entry named, and the kind's own checks
on it (R62, R63). -/
def actsOnEntry (sender : Station) (r : Record) (h : Handle) (ok : Entry → Bool) : Bool :=
  setHas r.members sender && !frozen r && (entryNamed r h).any ok

/-- The checks of OFFER (R62 to R64). -/
def offerOk (sender : Station) (r : Record) (k : Slot) (targets : StationSet) : Bool :=
  setHas r.members sender && !frozen r && (entryAt r k).isNone &&
    decide (quotaCount r sender < r.params.q) && targets != 0

/-- The checks of REPLY at the station `me` (R107). -/
def replyOk (me sender : Station) (r : Record) (v : Verdict) (n : Station) (count : Nat)
    (miss : Vector Nat 16) (p : Params) : Bool :=
  match r.join with
  | none => false
  | some j =>
    sender == j.respondent && n == stationToTell j && (!j.waiting.isEmpty || j.phase == .replyDue) &&
      v == verdictFor j &&
      (if v = .admitted then isJoiner me r || count == r.entries.length else count == 0) &&
      miss == r.miss && p == r.params

/-- The checks of ENTRY at the station `me`: a member compares the entry with its own, the joiner finds
the slot free (R108). -/
def entryOk (me sender : Station) (r : Record) (position : Nat) (e : Entry) : Bool :=
  match r.join with
  | none => false
  | some j =>
    sender == j.respondent && j.phase == .sending && position == j.cursor &&
      decide (j.cursor < j.expected) &&
      (if isJoiner me r then (entryAt r e.slot).isNone else r.entries[position]? == some e)

/-- The checks of CLOSE at the station `me` (R109). -/
def closeOk (me sender : Station) (r : Record) (count : Nat) : Bool :=
  match r.join with
  | none => false
  | some j =>
    sender == j.respondent && j.phase == .sending && decide (j.expected ≤ j.cursor) &&
      count == j.expected && (!isJoiner me r || count == r.entries.length)

/-- Whether a frame's contents are valid against the copy `r` of the station `me` (R62 to R76, R102,
R104, R107 to R109). -/
def contentOk (me sender : Station) (r : Record) : Body → Bool
  | .null => true
  | .found _ => false
  | .join _ => true
  | .reply v n count miss p => replyOk me sender r v n count miss p
  | .entry position e => entryOk me sender r position e
  | .close count => closeOk me sender r count
  | .offer k _ _ targets _ => offerOk sender r k targets
  | .claim h => actsOnEntry sender r h (claimable sender)
  | .done h => actsOnEntry sender r h (doneable sender)
  | .withdraw h => actsOnEntry sender r h (withdrawable sender)
  | .revoke h => actsOnEntry sender r h (revocable sender)
  | .leave => setHas r.members sender
  | .beacon => setHas r.members sender

/-! ### Effects of a frame that takes -/

/-- Apply a change to the copy and add lines to the report. -/
def Tally.update (t : Tally) (r : Record) (cs : List EntryChange) : Tally :=
  { t with record := r, changes := t.changes ++ cs }

/-- The entry an OFFER creates (R65). -/
def offeredEntry (sender : Station) (seq : Tag) (k : Slot) (code : Code) (prio : Priority)
    (targets : StationSet) (p : Option Word32) : Entry :=
  { slot := k, tag := seq, origin := sender, code := code, priority := prio, targets := targets,
    claimant := none, revokes := 0, orphan := false, payload := p }

/-- The effect on the entry of a handle, with its report line, if the handle names an entry. -/
def onEntry (t : Tally) (h : Handle) (f : Record → Entry → Record) (b : Entry → Became) : Tally :=
  match entryNamed t.record h with
  | none => t
  | some e => t.update (f t.record e) [⟨e, b e⟩]

/-- The copy after a REVOKE of the entry e: OFFERED again with one more revoke, or removed at the
revoke limit (R73). -/
def revokeEntry (r : Record) (e : Entry) : Record :=
  if e.revokes + 1 < r.params.v then
    changeEntry r e.slot (fun x => { x with claimant := none, revokes := x.revokes + 1 })
  else removeEntry r e.slot

/-- The verdict a JOIN draws (R104), for a sender that is neither joiner nor waiting. -/
def joinVerdict (sender : Station) (r : Record) (p : Params) : Verdict :=
  if setHas r.members sender then .duplicate
  else if p ≠ r.params then .mismatch
  else if r.join.isSome then .deferred
  else .admitted

/-- The copy after a JOIN that takes (R16, R104). -/
def joinTakes (sender : Station) (r : Record) (p : Params) : Record :=
  let v := joinVerdict sender r p
  match r.join with
  | some j =>
    if j.joiner = sender || j.waiting.any (fun w => w.1 == sender) then r
    else { r with join := some { j with waiting := j.waiting ++ [(sender, v)] } }
  | none =>
    match lowestOther r.members sender with
    | none => r
    | some resp =>
      let j : JoinRecord :=
        { joiner := sender, respondent := resp, verdict := v, phase := .replyDue, cursor := 0,
          expected := 0, waiting := [] }
      if v = .admitted then
        { r with members := setAdd r.members sender, miss := r.miss.set sender.val 0, join := some j }
      else { r with join := some j }

/-- The copy at the station `me` after a REPLY that takes (R17, R18, R107). -/
def replyTakes (me : Station) (r : Record) (count : Nat) : Record :=
  match r.join with
  | none => r
  | some j =>
    match j.waiting with
    | _ :: rest => { r with join := some { j with waiting := rest } }
    | [] =>
      if j.verdict = .admitted then
        { r with
          entries := if isJoiner me r then [] else r.entries
          join := some { j with phase := .sending, cursor := 0, expected := count } }
      else { r with join := endJoinerPart r.members j }

/-- The copy at the station `me` after an ENTRY that takes (R108). -/
def entryTakes (me : Station) (r : Record) (e : Entry) : Record :=
  { r with
    entries := if isJoiner me r then r.entries ++ [e] else r.entries
    join := r.join.map (fun j => { j with cursor := j.cursor + 1 }) }

/-- The copy after a CLOSE that takes (R109). -/
def closeTakes (r : Record) : Record := { r with join := r.join.bind (endJoinerPart r.members) }

/-- The frame applied to the copy of the station `me` (R65 to R76, R104 to R109). -/
def applyBody (me sender : Station) (seq : Tag) (t : Tally) : Body → Tally
  | .null => t
  | .beacon => t
  | .found _ => t
  | .offer k code prio targets p =>
      let e := offeredEntry sender seq k code prio targets p
      t.update { t.record with entries := t.record.entries ++ [e] } [⟨e, .created⟩]
  | .claim h =>
      onEntry t h (fun r e => changeEntry r e.slot (fun x => { x with claimant := some sender }))
        (fun _ => .claimed sender)
  | .done h => onEntry t h (fun r e => removeEntry r e.slot) (fun _ => .removedByDone)
  | .withdraw h => onEntry t h (fun r e => removeEntry r e.slot) (fun _ => .removedByWithdraw)
  | .revoke h =>
      onEntry t h revokeEntry
        (fun e => if e.revokes + 1 < t.record.params.v then .returnedByRevoke else .removedByRevoke)
  | .leave => departOne .left t sender
  | .join p => t.update (joinTakes sender t.record p) []
  | .reply _ _ count _ _ => t.update (replyTakes me t.record count) []
  | .entry _ e => t.update (entryTakes me t.record e) []
  | .close _ => t.update (closeTakes t.record) []

end Sys2Proof.Machine
end

