-- ==== Sys2Proof/Machine/Judge.lean ====
section
/-! DEFINITION. Judging an attempt (chapter 3): abstentions, the take test, blame, charges, eviction and
self-diagnosis, and the narrower judgements of FOUND, JOIN and REPLY outside a record. -/

namespace Sys2Proof.Machine

/-- The record of an attempt as it is handed to the group record unit (R40). DEDUCED: the sender of a
judgement is the winner worked out, not the head's sender field (unsafe where
pointers differ, log entry 9). -/
structure Seen where
  /-- The sender of the attempt: the winner this station worked out (R27). -/
  winner : Station
  /-- This station was the sender. -/
  isSender : Bool
  /-- The frame: at the sender the frame it built, at a receiver the frame if it was good. -/
  frame : Option Frame
  fields : Vector Response 16
  /-- For this station's own REFUSE, the test that failed (R47). -/
  refusal : Option Reason
  deriving DecidableEq, Repr

/-- The outcome of a judgement (R61). -/
structure Judgement where
  record : Record
  took : Bool
  /-- The frame was applied (R50). -/
  applied : Bool
  departures : List (Station × DepartureCause)
  changes : List EntryChange
  /-- This station concludes that its copy has diverged (R57). -/
  diverged : Bool
  /-- This station's own departure, with its cause (R60). -/
  own : Option DepartureCause
  deriving DecidableEq, Repr

/-- The members whose fields read ABSTAIN, in ascending number (R48). -/
def abstainers (r : Record) (fields : Vector Response 16) : List Station :=
  (setList r.members).filter (fun n => fields[n] == .abstain)

/-- The take test over the judging set (R49). -/
def takeTest (judging : StationSet) (fields : Vector Response 16) : Bool :=
  (setList judging).all (fun n => fields[n] == .ack)

/-- The members of the judging set other than the sender (R53). -/
def others (judging : StationSet) (sender : Station) : List Station :=
  (setList judging).filter (fun n => n != sender)

/-- Whether the sender is blamed: there is an other, and at least half of the others refused (R53). -/
def blamed (judging : StationSet) (sender : Station) (fields : Vector Response 16) : Bool :=
  let os := others judging sender
  let refusals := (os.filter (fun n => fields[n] == .refuse)).length
  !os.isEmpty && decide (os.length ≤ 2 * refusals)

/-- A member's miss count after a failed attempt (R54, R55). -/
def chargedCount (blame isSender : Bool) (answer : Response) (count : Nat) : Nat :=
  match isSender, blame, answer with
  | true, true, _ => count + 1
  | true, false, .ack => 0
  | true, false, _ => count + 1
  | false, _, .ack => 0
  | false, true, .refuse => count
  | false, false, .refuse => count + 1
  | false, _, _ => count + 1

/-- The copy with the charges of a failed attempt made (R54). -/
def charge (r : Record) (sender : Station) (fields : Vector Response 16) : Record :=
  let blame := blamed r.members sender fields
  { r with
    miss := Vector.ofFn (fun n =>
      if setHas r.members n then chargedCount blame (n == sender) fields[n] r.miss[n] else r.miss[n]) }

/-- The members whose count has reached E, in ascending number (R56). -/
def reachedE (r : Record) : List Station :=
  (setList r.members).filter (fun n => decide (r.params.e ≤ r.miss[n]))

/-- Whether a REPLY carries verdict ADMITTED (R50, R107). -/
def isAdmittedReply : Body → Bool
  | .reply .admitted _ _ _ _ => true
  | _ => false

/-- Whether a frame that takes is applied, given who abstained and the copy they left (R50). -/
def applies (me : Station) (x : Seen) (abst : List Station) (r : Record) (f : Frame) : Bool :=
  !abst.contains x.winner && contentOk me x.winner r f.body &&
    !(isAdmittedReply f.body && !abst.isEmpty)

/-- The copy after a take: one more in the sequence and every count 0 (R50). -/
def tookRecord (r : Record) : Record := { r with seq := r.seq + 1, miss := Vector.replicate 16 0 }

/-- Whether this station concludes that its copy has diverged in a failed attempt: `before` is the
copy before the attempt, `judging` the judging set and `after` the copy after the evictions (R57). -/
def divergence (me : Station) (x : Seen) (before : Record) (judging : StationSet) (after : Record) : Bool :=
  let blame := blamed judging x.winner x.fields
  let minority := (x.refusal == some .head || x.refusal == some .content) && !blame
  let foreign := x.refusal == some .head && judging == setOne me && !setHas before.members x.winner &&
    x.frame.any (fun f => f.members != 0)
  !x.isSender && setHas after.members me && (minority || foreign)

/-- The cause with which a station departs, if it is among the departures (R60). -/
def departureOf (n : Station) (ds : List (Station × DepartureCause)) : Option DepartureCause :=
  (ds.find? (fun d => d.1 == n)).map Prod.snd

/-- The copy as the abstentions leave it (R48). -/
def afterAbstentions (r : Record) (fields : Vector Response 16) : Tally :=
  (abstainers r fields).foldl (departOne .abstained) ⟨r, [], []⟩

/-- Step 3a of a judgement: the attempt took (R50). DEDUCED: a station without the frame applies nothing and
still counts the take (unsafe, log entry 8). -/
def judgeTaken (me : Station) (x : Seen) (abst : List Station) (t : Tally) : Judgement :=
  let ok := x.frame.any (applies me x abst t.record)
  let t' := match x.frame with
    | some f => if ok then applyBody me x.winner f.seq t f.body else t
    | none => t
  { record := tookRecord t'.record, took := true, applied := ok, departures := t'.departures,
    changes := t'.changes, diverged := false, own := departureOf me t'.departures }

/-- Steps 3b and 4 of a judgement: the attempt failed (R53 to R57). -/
def judgeFailed (me : Station) (x : Seen) (before : Record) (t : Tally) : Judgement :=
  let charged := charge t.record x.winner x.fields
  let t' := (reachedE charged).foldl (departOne .evicted) { t with record := charged }
  { record := t'.record, took := false, applied := false, departures := t'.departures,
    changes := t'.changes, diverged := divergence me x before t.record.members t'.record,
    own := departureOf me t'.departures }

/-- The judgement of an attempt at the station `me` with the copy `r` (R45). When no member remains
after the abstentions it ends there (R48). -/
def judge (me : Station) (x : Seen) (r : Record) : Judgement :=
  let t := afterAbstentions r x.fields
  if t.record.members = 0 then
    { record := t.record, took := false, applied := false, departures := t.departures,
      changes := t.changes, diverged := false, own := departureOf me t.departures }
  else if takeTest t.record.members x.fields then judgeTaken me x (abstainers r x.fields) t
  else judgeFailed me x r t

/-! ### Judgements outside a record (R51, R52, R105) -/

/-- A FOUND sender judges its FOUND taken: its own field reads ACK and no other reads REFUSE (R51). -/
def foundTaken (me : Station) (fields : Vector Response 16) : Bool :=
  fields[me] == .ack && (List.finRange 16).all (fun n => n == me || fields[n] != .refuse)

/-- A JOIN sender judges its JOIN taken: no field reads REFUSE and a field other than its own reads
ACK (R52). -/
def joinTaken (me : Station) (fields : Vector Response 16) : Bool :=
  (List.finRange 16).all (fun n => fields[n] != .refuse) &&
    (List.finRange 16).any (fun n => n != me && fields[n] == .ack)

/-- A JOINING station judges a REPLY that names it taken, from the member set in its head (R105). -/
def replyTaken (f : Frame) (v : Verdict) (fields : Vector Response 16) : Bool :=
  let remaining := (setList f.members).filter (fun n => fields[n] != .abstain)
  !(setHas f.members f.sender && fields[f.sender] == .abstain) &&
    remaining.all (fun n => fields[n] == .ack) &&
    (v != .admitted || (setList f.members).all (fun n => fields[n] != .abstain))

/-- The record a taken FOUND creates (R2). -/
def foundedRecord (me : Station) (p : Params) : Record :=
  { members := setOne me, miss := Vector.replicate 16 0, seq := 1, params := p, entries := [],
    join := none }

/-- The record an ADMITTED REPLY loads at its joiner, with the judgement of its own attempt completed:
the sequence one higher and every count 0 (R2, R105). -/
def loadedRecord (me : Station) (f : Frame) (count : Nat) (p : Params) : Record :=
  { members := f.members, miss := Vector.replicate 16 0, seq := f.seq + 1, params := p, entries := [],
    join := some
      { joiner := me, respondent := f.sender, verdict := .admitted, phase := .sending, cursor := 0,
        expected := count, waiting := [] } }

end Sys2Proof.Machine
end

