-- ==== Sys2Proof/Machine/Ops.lean ====
section
/-! DEFINITION. The named operations every block uses: posting to the two queues, reservations, adding
and removing purposes, reading what the copy and the configuration hold, and changing one line, raise
or grant record. -/

namespace Sys2Proof.Machine

/-! ### Intervals in microseconds (Introduction, group parameters and timers) -/

/-- Ti as configured (R7). -/
def idleInterval (s : State) : Nat := s.port.store.ti * Config.idleUnit

/-- Tq as configured (R155). -/
def quietInterval (s : State) : Nat := s.port.store.tq * Config.milli

/-- Tj = 4 × Ti (R96). -/
def joinReplyInterval (s : State) : Nat := 4 * idleInterval s

/-- Tb = (station number + 1) × 100 µs (R92, R96). -/
def backoffInterval (s : State) : Nat := (s.number.val + 1) * Config.backoffUnit

/-- A timer started for a duration in milliseconds, 0 leaving it stopped (R123). -/
def serviceTimer (ms : Nat) : Timer := if ms = 0 then none else some (ms * Config.milli)

/-! ### Questions put to the station -/

/-- Whether the station is in a state that judges (R44). -/
def StationState.judges : StationState → Bool
  | .syncing | .member | .leaving => true
  | .offline | .listen | .founding | .joining | .departing | .isolated => false

/-- The member set of the copy, empty without one (R21). -/
def copyMembers (s : State) : StationSet := (s.record.map Record.members).getD 0

/-- The group sequence of the copy, 0 without one (R21). -/
def copySeq (s : State) : Tag := (s.record.map Record.seq).getD 0

/-- Whether a freeze stands in the copy (R13). -/
def freezeStands (s : State) : Bool := s.record.any frozen

/-- Whether the input of a level line makes it active (R117). An edge line is never active. -/
def lineActive (s : State) (n : Line) : Bool :=
  match s.origin.lines[n].mode with
  | .levelHigh => s.origin.levels.getLsbD n.val
  | .levelLow => !s.origin.levels.getLsbD n.val
  | .edgeRise | .edgeFall => false

/-- Whether a mode is a level mode (R117). -/
def LineMode.isLevel : LineMode → Bool
  | .levelHigh | .levelLow => true
  | .edgeRise | .edgeFall => false

/-! ### The host port's queues -/

/-- Post a fault: append it, stamped with the clock and with the sequence of the copy where there is
one, or drop it and set the overflow flag when eight are queued (R161). -/
def postFault (kind : FaultKind) (station : Option Station) (slot : Option Slot) (line : Option Line)
    (cause : Option DepartureCause) (s : State) : State :=
  let f : FaultRecord :=
    { kind := kind, stamp := s.port.clock, station := station, slot := slot, line := line,
      seq := s.record.map Record.seq, cause := cause }
  if s.port.faults.length < Config.faultDepth then
    s.setPort { s.port with faults := s.port.faults ++ [f] }
  else s.setPort { s.port with overflow := true }

/-- Post completions in order, each on the reservation taken for it (R158, R159). -/
def postCompletions (cs : List Completion) (s : State) : State :=
  s.setPort { s.port with
    completions := s.port.completions ++ cs
    reserved := s.port.reserved - cs.length }

/-- The number of free reservations (R159). -/
def freeReservations (s : State) : Nat :=
  Config.completionDepth - s.port.reserved - s.port.completions.length

/-- Take one completion reservation (R159). -/
def reserve (s : State) : State := s.setPort { s.port with reserved := s.port.reserved + 1 }

/-- Put a command's result words into the window, 0 in each that it does not use (R153). -/
def answerHost (r0 r1 r2 r3 : Word32) (s : State) : State :=
  s.setPort { s.port with result0 := r0, result1 := r1, result2 := r2, result3 := r3 }

/-! ### Purposes -/

/-- Whether an aim may not be held beside another: the same kind for the same handle, an OFFER for the
same source, a JOIN or FOUND beside either, or one of the kinds held at most once (R84). -/
def Aim.clashes : Aim → Aim → Bool
  | .duty, .duty => true
  | .leave, .leave => true
  | .done h, .done h' => h == h'
  | .revoke h _ _, .revoke h' _ _ => h == h'
  | .withdraw h _, .withdraw h' _ => h == h'
  | .claim, .claim => true
  | .offer x _, .offer x' _ => x == x'
  | .join, .join => true
  | .join, .found => true
  | .found, .join => true
  | .found, .found => true
  | .beacon, .beacon => true
  | .departureNull, .departureNull => true
  | _, _ => false

/-- Whether the agenda takes in an add in a station state (R85). -/
def takesIn : StationState → Aim → Bool
  | .syncing, a => a == .leave || a == .beacon
  | .member, a | .leaving, a => a != .join && a != .found && a != .departureNull
  | .founding, a | .joining, a => a == .join || a == .found
  | .departing, a => a == .departureNull
  | .listen, _ | .offline, _ | .isolated, _ => false

/-- Add a purpose: held with count 0 if the state takes it in, absorbed if it would duplicate one held, which
stays as it is (R84, R85). DEDUCED: a REVOKE that absorbs another keeps its timed claimant too, as it keeps
its age (unsafe, log entry 31). -/
def addPurpose (a : Aim) (s : State) : State :=
  if takesIn s.control.state a && !s.agenda.purposes.any (fun p => p.aim.clashes a) then
    s.setAgenda { s.agenda with
      purposes := s.agenda.purposes ++ [{ aim := a, age := s.agenda.nextAge, count := 0, setAside := none }]
      nextAge := s.agenda.nextAge + 1 }
  else s

/-- Remove the purposes of some aims; a set-aside timer goes with its purpose (R85). -/
def dropPurposes (which : Aim → Bool) (s : State) : State :=
  s.setAgenda { s.agenda with purposes := s.agenda.purposes.filter (fun p => !which p.aim) }

/-- Empty the agenda (R84). -/
def emptyAgenda (s : State) : State := s.setAgenda { s.agenda with purposes := [] }

/-- Whether a purpose of an aim is held. -/
def holdsAim (which : Aim → Bool) (s : State) : Bool := s.agenda.purposes.any (fun p => which p.aim)

/-- Whether an aim is an OFFER of this source. -/
def Aim.isOfferOf (x : Source) : Aim → Bool
  | .offer x' _ => x' == x
  | _ => false

/-! ### Records of the origin unit -/

/-- Change one line record. -/
def changeLine (n : Line) (f : LineRecord → LineRecord) (s : State) : State :=
  s.setOrigin { s.origin with lines := s.origin.lines.set n.val (f s.origin.lines[n]) }

/-- Change the raise records with an id. -/
def changeRaise (id : RaiseId) (f : RaiseRecord → RaiseRecord) (s : State) : State :=
  s.setOrigin { s.origin with raises := s.origin.raises.map (fun r => if r.id = id then f r else r) }

/-- Remove the raise record with an id; the records on either side close up (R116). -/
def removeRaise (id : RaiseId) (s : State) : State :=
  s.setOrigin { s.origin with raises := s.origin.raises.filter (fun r => r.id != id) }

/-- The raise record with an id. -/
def raiseWith (s : State) (id : RaiseId) : Option RaiseRecord :=
  s.origin.raises.find? (fun r => r.id == id)

/-- The line or raise record that holds a handle (R123). -/
def holderOf (s : State) (h : Handle) : Option Source :=
  match (List.finRange 16).find? (fun n => s.origin.lines[n].handle == some h) with
  | some n => some (.line n)
  | none => (s.origin.raises.find? (fun r => r.handle == some h)).map (fun r => .raise r.id)

/-! ### The station's place -/

/-- Replace the station state and raise the STATE cause (R97, R166). -/
def markState (new : StationState) (s : State) : State :=
  (s.setControl { s.control with state := new }).setPort { s.port with stateCause := true }

end Sys2Proof.Machine
end

