-- ==== Sys2Proof/Machine/ClaimUnit.lean ====
section
/-! DEFINITION. The claim unit (chapter 8): interest filters, candidates, want, selection, and the ways
a grant record is appended and ends. -/

namespace Sys2Proof.Machine

/-- Whether a filter hits a code (R136). -/
def filterHits (f : Filter) (c : Code) : Bool := f.enabled && (c &&& f.mask) == (f.base &&& f.mask)

/-- Whether a code hits the claim unit: an enabled filter hits it, or no filter is enabled (R136). -/
def codeHits (fs : Vector Filter 4) (c : Code) : Bool :=
  fs.toList.any (fun f => filterHits f c) || fs.toList.all (fun f => !f.enabled)

/-- The candidates, in order-list order: OFFERED, this station in the target set, the code hits (R137). -/
def candidates (s : State) : List Entry :=
  match s.record with
  | none => []
  | some r =>
    r.entries.filter (fun e =>
      e.claimant.isNone && setHas e.targets s.number && codeHits s.claim.filters e.code)

/-- Whether the grant list has room for a grant (R137). -/
def grantRoom (s : State) : Bool := decide (s.claim.grants.length < s.port.store.d)

/-- Whether the claim unit wants to claim (R137). -/
def wantsToClaim (s : State) : Bool :=
  s.control.state == .member && !s.claim.paused && grantRoom s && !(candidates s).isEmpty

/-- The eligible entries (R137). -/
def eligible (s : State) : List Entry :=
  if wantsToClaim s && !freezeStands s then candidates s else []

/-- The entry of highest priority, the earliest of the list among equals (R139). -/
def bestEntry : List Entry → Option Entry
  | [] => none
  | e :: es =>
    match bestEntry es with
    | none => some e
    | some b => if e.priority < b.priority then some b else some e

/-- The entry the claim unit selects at a grant (R139). -/
def selectEntry (s : State) : Option Entry := bestEntry (eligible s)

/-- Work out the want: add the CLAIM purpose while it holds, remove it when it fails (R138). -/
def updateWant (s : State) : State :=
  if wantsToClaim s then addPurpose .claim s else dropPurposes (fun a => a == .claim) s

/-- The CLAIM standing: the claim unit holds a CLAIM purpose in the agenda (R135). -/
def claimStanding (s : State) : Bool := holdsAim (fun a => a == .claim) s

/-- The number of UNREAD grant records (R151). -/
def unreadCount (s : State) : Nat :=
  (s.claim.grants.filter (fun g => g.state == .unread)).length

/-- The grant record of a claim won (R141). -/
def grantOf (e : Entry) : Grant :=
  { handle := ⟨e.slot, e.tag⟩, code := e.code, priority := e.priority, origin := e.origin,
    payload := e.payload, state := .unread }

/-- Whether the entry of a grant record is still CLAIMED by station n with the record's tag (R145). -/
def stillClaimed (n : Station) (r : Record) (g : Grant) : Bool :=
  (entryNamed r g.handle).any (fun e => e.claimant == some n)

/-- Whether a report names the entry of a grant record as removed by DONE (R144). -/
def finishedBy (cs : List EntryChange) (g : Grant) : Bool :=
  cs.any (fun c => c.became == .removedByDone && (⟨c.entry.slot, c.entry.tag⟩ : Handle) == g.handle)

/-- The completion of a grant record that a judgement ends: none for a record the host has not read,
DONE_TAKEN when its entry was removed by DONE, otherwise that of a lost claim (R144, R145). DEDUCED: an
UNREAD record whose entry a DONE removes leaves quietly, since it holds no reservation (unsafe, log
entry 19). -/
def grantEnding (cs : List EntryChange) (g : Grant) : Option Completion :=
  match g.state with
  | .unread => none
  | .inService => some (if finishedBy cs g then .finishDoneTaken g.handle else .grantLostRevoked g.handle)
  | .finishing => some (if finishedBy cs g then .finishDoneTaken g.handle else .finishLate g.handle)

/-- The completion of a grant record at this station's departure (R150). -/
def grantDeparting (g : Grant) : Option Completion :=
  match g.state with
  | .unread => none
  | .inService => some (.grantLostDeparted g.handle)
  | .finishing => some (.finishLate g.handle)

/-- The grant records that a judgement of this station's own CLAIM appends: the entries the report
names as claimed by this station (R140). -/
def grantsWon (s : State) (isSender : Bool) (cs : List EntryChange) : List Grant :=
  if isSender then
    (cs.filter (fun c => c.became == .claimed s.number)).map (fun c => grantOf c.entry)
  else []

/-- The claim unit's reaction to a judgement report: end the grant records whose entry is no longer
this station's, and append the grants won (R140, R144, R145). `r` is the copy as judged. -/
def claimReacts (isSender : Bool) (r : Record) (cs : List EntryChange) (s : State) : State :=
  let ended := s.claim.grants.filter (fun g => !stillClaimed s.number r g)
  let kept := s.claim.grants.filter (stillClaimed s.number r)
  postCompletions (ended.filterMap (grantEnding cs))
    (s.setClaim { s.claim with grants := kept ++ grantsWon s isSender cs })

/-- The claim unit at this station's departure: the grant list emptied in claim order (R150). -/
def claimDeparts (s : State) : State :=
  postCompletions (s.claim.grants.filterMap grantDeparting) (s.setClaim { s.claim with grants := [] })

end Sys2Proof.Machine
end

