-- ==== Sys2Proof/Machine/OriginUnit.lean ====
section
/-! DEFINITION. The origin unit (chapter 7): input changes, offers, withdrawals, service timers and the
reactions of line and raise records to judgement reports. -/

namespace Sys2Proof.Machine

/-- Put a line into WANT and add its OFFER purpose (R119). -/
def lineWants (n : Line) (s : State) : State :=
  addPurpose (.offer (.line n) s.origin.lines[n].priority)
    (changeLine n (fun l => { l with state := .want }) s)

/-- Evaluate a line in IDLE: a level line that is active enters WANT while the station is MEMBER
(R118, R124, R129). -/
def evaluateLine (n : Line) (s : State) : State :=
  if s.origin.lines[n].state = .idle ∧ s.control.state = .member ∧ lineActive s n then lineWants n s
  else s

/-- A level line in OFFERED that is inactive gains a WITHDRAW purpose (R121). -/
def checkWithdraw (n : Line) (s : State) : State :=
  let l := s.origin.lines[n]
  match l.handle with
  | some h =>
    if l.state = .offered ∧ l.mode.isLevel ∧ lineActive s n = false then addPurpose (.withdraw h n) s
    else s
  | none => s

/-! ### Input changes (R117 to R122) -/

/-- A level line that has become active (R119). -/
def levelActive (n : Line) (s : State) : State := evaluateLine n s

/-- A level line that has become inactive: WANT returns to IDLE without its OFFER purpose, OFFERED gains
a WITHDRAW (R119, R121). DEDUCED: in DEPARTING the record keeps its state (R134; unsafe, log entry 18). -/
def levelInactive (n : Line) (s : State) : State :=
  match s.origin.lines[n].state with
  | .want =>
    if s.control.state = .departing then s
    else dropPurposes (Aim.isOfferOf (.line n)) (changeLine n (fun l => { l with state := .idle }) s)
  | .offered => checkWithdraw n s
  | .disabled | .idle | .served | .holdoff => s

/-- An edge on an edge line (R122). -/
def edgeReceived (n : Line) (s : State) : State :=
  match s.origin.lines[n].state with
  | .idle => if s.control.state = .member then lineWants n s else s
  | .want | .offered | .served => changeLine n (fun l => { l with memo := true }) s
  | .holdoff | .disabled => s

/-- What the new level of an input means at its line record (R117). -/
def lineEvent (n : Line) (level : Bool) (s : State) : State :=
  match s.origin.lines[n].state with
  | .disabled | .holdoff => s
  | .idle | .want | .offered | .served =>
    match s.origin.lines[n].mode, level with
    | .levelHigh, true | .levelLow, false => levelActive n s
    | .levelHigh, false | .levelLow, true => levelInactive n s
    | .edgeRise, true | .edgeFall, false => edgeReceived n s
    | .edgeRise, false | .edgeFall, true => s

/-- The levels with input n at `level`. -/
def levelsWith (w : Word16) (n : Line) (level : Bool) : Word16 :=
  if level then setAdd w n else setDrop w n

/-- An input taking a level: a change is an event at its line record, no change is none (R117). -/
def inputChanges (n : Line) (level : Bool) (s : State) : State :=
  if s.origin.levels.getLsbD n.val = level then s
  else lineEvent n level (s.setOrigin { s.origin with levels := levelsWith s.origin.levels n level })

/-! ### Records of entries -/

/-- The duration in milliseconds for which a claim on a raise is timed (R123). -/
def raiseTimeout (s : State) (r : RaiseRecord) : Nat :=
  if r.timeout = 0 then s.port.store.raiseTimeout else r.timeout

/-- A record takes the handle of the entry its OFFER created (R120, R131). -/
def sourceOffered (x : Source) (h : Handle) (s : State) : State :=
  match x with
  | .line n =>
    if s.origin.lines[n].state = .want ∨ s.origin.lines[n].state = .idle then
      checkWithdraw n (dropPurposes (Aim.isOfferOf (.line n))
        (changeLine n (fun l => { l with state := .offered, handle := some h }) s))
    else s
  | .raise id => changeRaise id (fun r => { r with state := .offered, handle := some h }) s

/-- A claim on a record's entry: SERVED, with the service timer started (R123). -/
def sourceClaimed (x : Source) (s : State) : State :=
  match x with
  | .line n => changeLine n (fun l => { l with state := .served, timer := serviceTimer l.timeout }) s
  | .raise id =>
    changeRaise id (fun r => { r with state := .served, timer := serviceTimer (raiseTimeout s r) }) s

/-- A record's entry is OFFERED again, by REVOKE or by the claimant's departure: the timer stops, and a
level line that is inactive gains a WITHDRAW (R126, R128). DEDUCED: the timer stops for a REVOKE that took
before it ran out, too (unsafe, log entry 26). -/
def sourceReturned (x : Source) (s : State) : State :=
  match x with
  | .line n => checkWithdraw n (changeLine n (fun l => { l with state := .offered, timer := none }) s)
  | .raise id => changeRaise id (fun r => { r with state := .offered, timer := none }) s

/-- A raise record completes and leaves the list (R132). -/
def raiseEnds (id : RaiseId) (c : Completion) (s : State) : State :=
  postCompletions [c] (removeRaise id s)

/-- Re-arm a line whose entry has retired (R124). -/
def rearmLine (n : Line) (s : State) : State :=
  let l := s.origin.lines[n]
  let s' := changeLine n (fun l => { l with state := .idle, memo := false, handle := none, timer := none }) s
  if l.mode.isLevel then evaluateLine n s'
  else if l.memo && s.control.state == .member then lineWants n s'
  else s'

/-- A record's entry was removed by DONE: it retires (R124, R132). -/
def sourceRetires (x : Source) (s : State) : State :=
  match x with
  | .line n => rearmLine n s
  | .raise id => raiseEnds id (.raiseServiced id) s

/-- A line's entry was removed by its WITHDRAW: the line is evaluated (R121). DESIGN CHOICE: a WITHDRAW that
takes on the entry of a raise or of an edge line, which this station never sends, leaves the raise as it is
and takes the edge line to IDLE with its memo kept (unsafe, log entry 32). -/
def sourceWithdrawn (x : Source) (s : State) : State :=
  match x with
  | .line n =>
    evaluateLine n (changeLine n (fun l => { l with state := .idle, handle := none, timer := none }) s)
  | .raise _ => s

/-- A record's entry was removed at the revoke limit: HOLDOFF with SERVICE_FAILED, or DROPPED (R127). -/
def sourceDropped (x : Source) (h : Handle) (s : State) : State :=
  match x with
  | .line n =>
    postFault .serviceFailed none (some h.slot) (some n) none
      (changeLine n
        (fun l => { l with state := .holdoff, memo := false, handle := none, timer := none }) s)
  | .raise id => raiseEnds id (.raiseDropped id) s

/-- The origin unit's reaction to one line of a judgement report. `sent` is this station's sent purpose
when it was the sender: an entry created is matched to the OFFER it sent (R65, R123 to R128). -/
def originReacts (sent : Option Sent) (s : State) (c : EntryChange) : State :=
  let h : Handle := ⟨c.entry.slot, c.entry.tag⟩
  if c.entry.origin = s.number ∧ c.entry.orphan = false then
    match c.became with
    | .created =>
      match sent with
      | some ⟨⟨.offer x _, _, _, _⟩, _⟩ => sourceOffered x h s
      | _ => s
    | became =>
      match holderOf s h with
      | none => s
      | some x =>
        match became with
        | .claimed _ => sourceClaimed x s
        | .returnedByRevoke | .returnedByDeparture _ => sourceReturned x s
        | .removedByDone => sourceRetires x s
        | .removedByWithdraw => sourceWithdrawn x s
        | .removedByRevoke => sourceDropped x h s
        | .created | .removedByClaimantDeparture _ | .removedByOriginDeparture _ | .orphaned _ => s
  else s

/-! ### The station's own changes of state -/

/-- Add the OFFER purpose of a queued raise (R118). -/
def offerRaise (s : State) (r : RaiseRecord) : State :=
  if r.state = .queued then addPurpose (.offer (.raise r.id) r.priority) s else s

/-- The origin unit on entry to MEMBER: queued raises in list order, then lines in ascending number
(R118). -/
def originEnters (s : State) : State :=
  (List.finRange 16).foldl (fun s n => evaluateLine n s) (s.origin.raises.foldl offerRaise s)

/-- Stop every service timer (R133, R134). -/
def stopServiceTimers (s : State) : State :=
  s.setOrigin { s.origin with
    lines := Vector.ofFn (fun n : Fin 16 => { s.origin.lines[n] with timer := none })
    raises := s.origin.raises.map (fun r => { r with timer := none }) }

/-- A line record at this station's departure (R133). -/
def lineDeparts (l : LineRecord) : LineRecord :=
  match l.state with
  | .want | .offered | .served => { l with state := .idle, memo := false, handle := none, timer := none }
  | .idle | .holdoff | .disabled => { l with timer := none }

/-- The origin unit at this station's departure: lines cleared, OFFERED and SERVED raises DISCARDED in
list order, QUEUED raises kept (R133). -/
def originDeparts (s : State) : State :=
  let gone := s.origin.raises.filter (fun r => r.state != .queued)
  let kept := s.origin.raises.filter (fun r => r.state == .queued)
  postCompletions (gone.map (fun r => .raiseDiscarded r.id))
    (s.setOrigin { s.origin with
      lines := Vector.ofFn (fun n : Fin 16 => lineDeparts s.origin.lines[n])
      raises := kept.map (fun r => { r with timer := none }) })

end Sys2Proof.Machine
end

