-- ==== Sys2Proof/Machine/AgendaUnit.lean ====
section
/-! DEFINITION. The agenda (chapter 5): ranking, sendability, the building of a frame at grant, and the
counting of attempts. -/

namespace Sys2Proof.Machine

/-! ### Ranking (R86) -/

/-- The rank of a kind, 1 first (R86). A departure NULL is held alone. -/
def Aim.rank : Aim → Nat
  | .duty => 1
  | .leave => 2
  | .done _ => 3
  | .revoke _ _ _ => 4
  | .withdraw _ _ => 5
  | .claim => 6
  | .offer _ _ => 7
  | .join | .found => 8
  | .beacon => 9
  | .departureNull => 10

/-- For an OFFER, how far its offer priority is below 7; the higher priority goes first (R86). -/
def Aim.offerLag : Aim → Nat
  | .offer _ p => 7 - p.toNat
  | _ => 0

/-- Whether purpose p goes before purpose q (R86): by rank, by offer priority, by age. -/
def goesBefore (p q : Purpose) : Bool :=
  decide (p.aim.rank < q.aim.rank) ||
    (p.aim.rank == q.aim.rank &&
      (decide (p.aim.offerLag < q.aim.offerLag) ||
        (p.aim.offerLag == q.aim.offerLag && decide (p.age < q.age))))

/-- The purpose that goes first (R86). -/
def firstPurpose : List Purpose → Option Purpose
  | [] => none
  | p :: ps =>
    match firstPurpose ps with
    | none => some p
    | some q => if goesBefore q p then some q else some p

/-! ### Sendability (R87, R88) -/

/-- An OFFER may be sent: no freeze, a free slot, quota left (R87). -/
def offerRoom (s : State) : Bool :=
  s.record.any (fun r =>
    !frozen r && (lowestFree r).isSome && decide (quotaCount r s.number < r.params.q))

/-- Whether a kind's condition holds (R87). -/
def aimSendable (s : State) : Aim → Bool
  | .duty | .leave | .join | .found | .beacon | .departureNull => true
  | .done _ | .revoke _ _ _ | .withdraw _ _ => !freezeStands s
  | .claim => !(eligible s).isEmpty
  | .offer _ _ => offerRoom s

/-- Whether a purpose is sendable (R87). -/
def sendable (s : State) (p : Purpose) : Bool := p.setAside.isNone && aimSendable s p.aim

/-- The agenda's report: it holds a sendable purpose (R88). -/
def wantsBus (s : State) : Bool := s.agenda.purposes.any (sendable s)

/-- Whether the request line is to be driven: while observing, when the agenda reports that it holds a
sendable purpose, and never during this station's own attempt (R25). -/
def requestDue (s : State) : Bool :=
  let own := s.bus.attempt.any (fun a => a.driven.isSome)
  s.bus.observing && !s.bus.awaitRest && !own && wantsBus s

/-- Drive or release the request line to follow the agenda's report (R25). That it changed is kept for the
next close of arbitration (R26). -/
def updateRequest (s : State) : State :=
  s.setBus { s.bus with
    request := requestDue s
    requestChanged := s.bus.requestChanged || requestDue s != s.bus.request }

/-! ### Building at grant (R89, R90, R106) -/

/-- The configured group parameters (R7, R90). -/
def configuredParams (s : State) : Params :=
  let c := s.port.store
  { q := c.q, e := c.e, l := c.l, v := c.v, ti := c.ti }

/-- The body of the frame the join record calls for from its respondent (R106, R107). -/
def dutyBody (r : Record) (j : JoinRecord) : Option Body :=
  match j.waiting with
  | (n, v) :: _ =>
    some (.reply v n (if v = .admitted then r.entries.length else 0) r.miss r.params)
  | [] =>
    match j.phase with
    | .replyDue =>
      some (.reply j.verdict j.joiner (if j.verdict = .admitted then r.entries.length else 0) r.miss
        r.params)
    | .sending =>
      if j.cursor < j.expected then (r.entries[j.cursor]?).map (fun e => .entry j.cursor e)
      else some (.close j.expected)

/-- The body of an OFFER for a source, in the slot given (R90). -/
def offerBody (s : State) (k : Slot) (prio : Priority) : Source → Option Body
  | .line n =>
    let l := s.origin.lines[n]
    some (.offer k l.code prio l.targets none)
  | .raise id => (raiseWith s id).map (fun r => .offer k r.code prio r.targets (some r.payload))

/-- The body built from an aim if it is valid at this grant, by the copy and the local state (R89,
R90). -/
def aimBody (s : State) (a : Aim) : Option Body :=
  match a with
  | .duty =>
    s.record.bind (fun r =>
      if isRespondent s.number r then r.join.bind (dutyBody r) else none)
  | .leave => if s.control.state = .leaving then some .leave else none
  | .done h =>
    s.record.bind (fun r =>
      if (entryNamed r h).any (fun e => e.claimant == some s.number) then some (.done h) else none)
  | .revoke h timed _ =>
    s.record.bind (fun r =>
      if (entryNamed r h).any (fun e => e.claimant == some timed) then some (.revoke h) else none)
  | .withdraw h n =>
    s.record.bind (fun r =>
      if (entryNamed r h).any (fun e => e.claimant.isNone) && !lineActive s n then some (.withdraw h)
      else none)
  | .claim => (selectEntry s).map (fun e => .claim ⟨e.slot, e.tag⟩)
  | .offer x prio => s.record.bind (fun r => (lowestFree r).bind (fun k => offerBody s k prio x))
  | .join => some (.join (configuredParams s))
  | .found => some (.found (configuredParams s))
  | .beacon => some .beacon
  | .departureNull => some .null

/-- Whether a purpose is found valid at this grant (R89). -/
def validNow (s : State) (p : Purpose) : Bool := (aimBody s p.aim).isSome

/-- The purpose built at this grant: the first valid one among the sendable (R89). -/
def chosenPurpose (s : State) : Option Purpose :=
  firstPurpose (s.agenda.purposes.filter (fun p => sendable s p && validNow s p))

/-- Whether a purpose lapses at this grant: it was reached, sendable, and found invalid (R89). -/
def lapses (s : State) (p : Purpose) : Bool :=
  sendable s p && !validNow s p && (chosenPurpose s).all (goesBefore p)

/-- A frame of this station with the head of its copy, sequence 0 and the empty set outside a record
(R30, R90). -/
def frameWith (s : State) (b : Body) : Frame :=
  { sender := s.number, seq := copySeq s, members := copyMembers s, body := b }

/-- The handle an OFFER's entry will carry, handed to the origin unit with the sent purpose (R90). -/
def offeredHandle (s : State) : Body → Option Handle
  | .offer k .. => some ⟨k, copySeq s⟩
  | _ => none

/-- The frame built at grant: the chosen purpose's, or NULL (R89, R90). -/
def grantFrame (s : State) : Frame :=
  frameWith s (((chosenPurpose s).bind (fun p => aimBody s p.aim)).getD .null)

/-- The sent purpose of a grant (R84, R90). -/
def grantSent (s : State) : Option Sent :=
  (chosenPurpose s).map (fun p => ⟨p, (aimBody s p.aim).bind (offeredHandle s)⟩)

/-- The agenda after a grant: lapsed purposes dropped, the chosen one sent; the claim unit works out its
want anew if its CLAIM purpose lapsed (R89, R138). -/
def agendaGrants (s : State) : State :=
  let s' := s.setAgenda { s.agenda with
    purposes := s.agenda.purposes.filter (fun p => !lapses s p)
    sent := grantSent s }
  if claimStanding s && !claimStanding s' then updateWant s' else s'

/-! ### Counting attempts (R91 to R94) -/

/-- The held purpose that the attempt in flight carries. -/
def sentHeld (s : State) : Option Purpose :=
  s.agenda.sent.bind (fun x => s.agenda.purposes.find? (fun p => p.age == x.purpose.age))

/-- The sent purpose that a failure brings to L (R92, R93). -/
def exhausted (s : State) : Option Purpose :=
  (sentHeld s).filter (fun p =>
    decide (s.port.store.l ≤ p.count + 1) && p.aim != .departureNull)

/-- A purpose after its attempt failed: one more in its count, or set aside at L (R91, R92). -/
def countFailure (s : State) (p : Purpose) : Purpose :=
  if s.port.store.l ≤ p.count + 1 then { p with count := 0, setAside := some (backoffInterval s) }
  else { p with count := p.count + 1 }

/-- Remove the held purpose that the attempt carried. -/
def dropSent (s : State) : State :=
  match s.agenda.sent with
  | none => s
  | some x =>
    s.setAgenda { s.agenda with purposes := s.agenda.purposes.filter (fun p => p.age != x.purpose.age) }

/-- Count the outcome of the attempt this station sent against the purpose it carried: a take removes
it, a failure counts and sets it aside at L; JOIN and FOUND are removed at L, the departure NULL always
(R91 to R93). -/
def countSent (took : Bool) (s : State) : State :=
  match s.agenda.sent with
  | none => s
  | some x =>
    let gone := took || x.purpose.aim == .departureNull ||
      ((x.purpose.aim == .join || x.purpose.aim == .found) && (exhausted s).isSome)
    if gone then dropSent s
    else s.setAgenda { s.agenda with
      purposes := s.agenda.purposes.map (fun p => if p.age = x.purpose.age then countFailure s p else p) }

/-- The slot a RETRY_LIMIT fault carries for an aim (R92). -/
def Aim.faultSlot : Aim → Option Slot
  | .done h | .revoke h _ _ | .withdraw h _ => some h.slot
  | .duty | .leave | .claim | .offer _ _ | .join | .found | .beacon | .departureNull => none

/-- The line a RETRY_LIMIT fault carries for an aim: that of an OFFER from a line (R92). -/
def Aim.faultLine : Aim → Option Line
  | .offer (.line n) _ => some n
  | _ => none

/-- Post RETRY_LIMIT for a purpose that was set aside (R92). -/
def postRetryLimit (p : Option Purpose) (s : State) : State :=
  match p with
  | none => s
  | some p => postFault .retryLimit none p.aim.faultSlot p.aim.faultLine none s

/-- Whether the attempt was this station's own BEACON (R94). -/
def sentBeacon (s : State) : Bool := s.agenda.sent.any (fun x => x.purpose.aim == .beacon)

/-- The agenda has nothing more to do with the attempt: the sent purpose becomes absent (R91). -/
def clearSent (s : State) : State := s.setAgenda { s.agenda with sent := none }

/-- Restart the idle timer (R41). -/
def restartIdle (s : State) : State := s.setAgenda { s.agenda with idle := some (idleInterval s) }

/-- Stop the idle timer (R94). -/
def stopIdle (s : State) : State := s.setAgenda { s.agenda with idle := none }

end Sys2Proof.Machine
end

