-- ==== Sys2Proof/Machine/Membership.lean ====
section
/-! DEFINITION. The membership controller (chapter 6): changes of station state, what it makes of each
observed attempt, and this station's departure. -/

namespace Sys2Proof.Machine

/-! ### Changes of station state (R97) -/

/-- What leaving the present station state does (R97). -/
def leaveState (s : State) : State :=
  match s.control.state with
  | .listen => s.setControl { s.control with quiet := none, headNoted := false }
  | .departing => s.setControl { s.control with wait := none, cause := none }
  | .founding => dropPurposes (fun a => a == .found) s
  | .joining =>
    dropPurposes (fun a => a == .join) (s.setControl { s.control with joinReply := none })
  | .offline | .syncing | .member | .leaving | .isolated => s

/-- Observing stops, and the idle timer with it (R94), and the request line is released. An attempt in flight
here is one during which LEAVE was taken: observing stops at its end, and its record is marked to be discarded
then (R24). -/
def stopObserving (s : State) : State :=
  match s.bus.attempt with
  | none => stopIdle (s.setBus { s.bus with
      observing := false, awaitRest := false, arbitrating := false, request := false,
      requestChanged := false })
  | some a => s.setBus { s.bus with
      awaitRest := false, arbitrating := false, request := false,
      attempt := some { a with discard := true } }

/-- On entering OFFLINE or ISOLATED (R97). -/
def enterOff (s : State) : State :=
  let s := emptyAgenda (stopObserving s)
  s.setControl { s.control with
    quiet := none, joinReply := none, backoff := none, headNoted := false, wait := none, note := none }

/-- On entering LISTEN: the pointer is unlearned, and the quiet timer starts unless the backoff timer
runs (R23, R97). -/
def enterListen (s : State) : State :=
  (s.setBus { s.bus with pointer := 0, learned := false }).setControl { s.control with
    quiet := if s.control.backoff.isSome then none else some (quietInterval s) }

/-- What entering a station state does (R97, R100, R113, R118). -/
def enterState (new : StationState) (s : State) : State :=
  match new with
  | .offline => enterOff s
  | .isolated => enterOff s
  | .listen => enterListen s
  | .founding => addPurpose .found (s.setControl { s.control with foreign := false, note := none })
  | .joining => addPurpose .join (s.setControl { s.control with note := none })
  | .member => updateWant (originEnters s)
  | .departing =>
    let s := stopServiceTimers (emptyAgenda s)
    s.setControl { s.control with wait := some (idleInterval s) }
  | .syncing | .leaving => updateWant s

/-- A change of station state (R97). -/
def changeState (new : StationState) (s : State) : State := enterState new (markState new (leaveState s))

/-- Observing is started on the way from OFFLINE or ISOLATED to LISTEN: the bus must first be found at
rest (R24). -/
def startObserving (s : State) : State := s.setBus { s.bus with awaitRest := true }

/-- Start the backoff timer with its follow-on (R96). DEDUCED: a readable head noted before is forgotten,
as it is on leaving LISTEN (unsafe, log entry 20). -/
def startBackoff (next : FollowOn) (s : State) : State :=
  s.setControl { s.control with backoff := some (backoffInterval s, next), headNoted := false }

/-- Enter DEPARTING with a cause (R113). -/
def enterDeparting (cause : DepartingCause) (s : State) : State :=
  let s := changeState .departing s
  s.setControl { s.control with cause := some cause }

/-- Return to LISTEN with the backoff timer started (R112, R113, R114). -/
def listenWithBackoff (s : State) : State := changeState .listen (startBackoff .listen s)

/-- Return to LISTEN from JOINING with an admission note, posting JOIN_TIMEOUT (R103). -/
def joinTimedOut (s : State) : State :=
  let s := changeState .listen s
  postFault .joinTimeout none none none none (s.setControl { s.control with note := some 0 })

/-- This station's departure at the blocks that hold its entries: completions of the claim unit, then
of the origin unit, with the agenda emptied and the copy discarded (R60, R84, R97, R160). -/
def selfDeparts (s : State) : State := (originDeparts (claimDeparts (emptyAgenda s))).setRecord none

/-- Go OFFLINE with the LEAVE completion LEFT (R113, R114). -/
def leaveEnds (s : State) : State := changeState .offline (postCompletions [.leaveLeft] s)

/-! ### The attempt as this station sees it -/

/-- The frame this station received good (R31). -/
def goodFrame (a : Attempt) : Option Frame := if a.framed then decodeFrame a.words else none

/-- The frame whose head is readable here: good at a receiver, read back at the sender (R31). -/
def readableFrame (a : Attempt) : Option Frame :=
  match a.driven with
  | some f => if a.readback = some true then some f else none
  | none => goodFrame a

/-- Whether the word that carries this station's field was strobed (R34, R36, R171). -/
def ownWordStrobed (n : Station) (a : Attempt) : Bool := decide (n.val / 4 < a.responses.length)

/-- The attempt as it is handed to the group record unit of station n (R40). A station whose response word
was not strobed has not answered (R34), so it has no refusal of its own. DEDUCED: the sender applies the
frame it built (safe for a readback that passed, log entry 7). -/
def seenOf (n : Station) (a : Attempt) : Seen :=
  { winner := a.winner
    isSender := a.driven.isSome
    frame := match a.driven with
      | some f => some f
      | none => goodFrame a
    fields := windowFields a.responses
    refusal := match a.answer with
      | some (.refuse why) => if ownWordStrobed n a then some why else none
      | _ => none }

/-! ### SYNCING, MEMBER and LEAVING: the judgement (R45, R61) -/

/-- Post MEMBER_DEPARTED for each other station that departed, in the report's order (R56, R163). -/
def postDepartures (ds : List (Station × DepartureCause)) (s : State) : State :=
  (ds.filter (fun d => d.1 != s.number)).foldl
    (fun s d => postFault .memberDeparted (some d.1) none none (some d.2) s) s

/-- This station departs at its own judgement (R114). LEFT from SYNCING or MEMBER cannot occur by the
manual. DESIGN CHOICE: it is treated as an eviction (unsafe, log entry 13). -/
def ownDeparture (cause : DepartureCause) (s : State) : State :=
  if s.control.state = .leaving then
    match cause with
    | .left => leaveEnds (selfDeparts s)
    | .evicted | .abstained =>
      leaveEnds (selfDeparts (postFault .evicted (some s.number) none none none s))
  else listenWithBackoff (selfDeparts (postFault .evicted (some s.number) none none none s))

/-- Whether a joiner's snapshot is lost by a judgement: the copy no longer names this station as its
joiner, and not because its CLOSE took (R110). -/
def snapshotLost (s : State) (before : Record) (j : Judgement) (closed : Bool) : Bool :=
  (s.control.state == .syncing || (s.control.state == .leaving && isJoiner s.number before)) &&
    !isJoiner s.number j.record && !closed

/-- Post the faults about this station's own place: DESYNC for a diverged copy (R58), JOIN_TIMEOUT for a
lost snapshot (R110), in the order of R163. -/
def postOwnPlace (diverged lost : Bool) (s : State) : State :=
  let s' := if diverged then postFault .desync none none none none s else s
  if lost then postFault .joinTimeout none none none none s' else s'

/-- Whether the attempt was the CLOSE that completes this joiner's snapshot (R109). -/
def closesSnapshot (s : State) (before : Record) (x : Seen) (j : Judgement) : Bool :=
  j.applied && isJoiner s.number before &&
    x.frame.any (fun f => match f.body with | .close _ => true | _ => false)

/-- Keep the respondent duty in step with the join record (R106). -/
def updateDuty (s : State) : State :=
  if s.record.any (isRespondent s.number) then addPurpose .duty s
  else dropPurposes (fun a => a == .duty) s

/-- Remove a held BEACON unless the attempt was this station's own BEACON and failed (R94). -/
def updateBeacon (isSender took : Bool) (s : State) : State :=
  if isSender && sentBeacon s && !took then s else dropPurposes (fun a => a == .beacon) s

/-- Where a judgement that left this station in the group takes its station state: a diverged copy, a
lost snapshot and an exhausted LEAVE lead to DEPARTING, a completed snapshot to MEMBER (R58, R109, R110,
R111). DESIGN CHOICE: where a copy has diverged and a snapshot is lost, the cause is DESYNC (unsafe, log
entry 14). DEDUCED: a LEAVE set aside outside LEAVING moves nothing (unsafe, log entry 27). -/
def settleState (diverged lost leaveSpent closed : Bool) (s : State) : State :=
  let leaving := s.control.state == .leaving
  if diverged then enterDeparting (if leaving then .leave else .desync) s
  else if lost then enterDeparting (if leaving then .leave else .restart) s
  else if leaveSpent && leaving then enterDeparting .leave s
  else if closed && s.control.state == .syncing then changeState .member s
  else s

/-- A judgement of a station that holds a record, and the reactions of its blocks to the report (R61), with
its faults in the order of R163. DEDUCED: a failure is counted against the purpose sent, with RETRY_LIMIT at
L, before an owner removes the purpose for what the same report says (unsafe, log entry 30). DESIGN CHOICE: the
origin unit takes the entries in the report's order, so that of several WITHDRAWs one report adds, that of the
entry listed first is the older (R86; unsafe, log entry 34). -/
def memberJudges (a : Attempt) (r : Record) (s : State) : State :=
  let x := seenOf s.number a
  let j := judge s.number x r
  let closed := closesSnapshot s r x j
  let lost := snapshotLost s r j closed
  let s₁ := postDepartures j.departures (s.setRecord (some j.record))
  match j.own with
  | some cause => ownDeparture cause s₁
  | none =>
    let spent := if x.isSender && !j.took then exhausted s else none
    let sent := if x.isSender then s.agenda.sent else none
    let s₂ := postOwnPlace j.diverged lost s₁
    let s₃ := if x.isSender then countSent j.took s₂ else s₂
    let s₄ := claimReacts x.isSender j.record j.changes s₃
    let s₅ := j.changes.foldl (originReacts sent) s₄
    let s₆ := postRetryLimit spent s₅
    let s₇ := updateBeacon x.isSender j.took s₆
    let s₈ := settleState j.diverged lost (spent.any (fun p => p.aim == .leave)) closed s₇
    updateWant (updateDuty s₈)

/-! ### The other states -/

/-- The end of an attempt in DEPARTING: with its ABSTAIN given the station departs, otherwise its wait
restarts, and a departure NULL it sent is removed (R36, R41, R91, R113). DEDUCED: that removal needs no
judgement (unsafe, log entry 28). -/
def departingEnds (a : Attempt) (s : State) : State :=
  if a.stateAtClose = .departing ∧ ownWordStrobed s.number a then
    match s.control.cause with
    | some .leave => leaveEnds (selfDeparts s)
    | some .desync | some .restart | none => listenWithBackoff (selfDeparts s)
  else
    let s' := if a.driven.isSome then dropSent s else s
    s'.setControl { s'.control with wait := some (idleInterval s) }

/-- The end of an attempt in FOUNDING (R51, R100 to R102). DEDUCED: an own attempt that broke before its
readback ended is no foreign attempt (unsafe, log entry 27). -/
def foundingEnds (a : Attempt) (s : State) : State :=
  let s₁ :=
    if a.driven.isNone || a.readback == some false then s.setControl { s.control with foreign := true }
    else s
  match a.driven with
  | some ⟨_, _, _, .found p⟩ =>
    if foundTaken s.number (windowFields a.responses) then
      changeState .member (s₁.setRecord (some (foundedRecord s.number p)))
    else
      let s₂ := countSent false s₁
      if (exhausted s₁).isSome then
        postFault .foundRefused none none none none (changeState .listen s₂)
      else s₂
  | _ => s₁

/-- A JOINING station and a REPLY that names it (R105). A DEFERRED station holds no purpose during its
backoff, so a JOIN still held, of an attempt that failed here and took at the members (R52), is removed. -/
def replyHeard (f : Frame) (v : Verdict) (count : Nat) (p : Params) (s : State) : State :=
  match v with
  | .admitted => changeState .syncing (s.setRecord (some (loadedRecord s.number f count p)))
  | .deferred =>
    startBackoff .sendJoin
      (dropPurposes (fun x => x == .join) (s.setControl { s.control with joinReply := none }))
  | .mismatch =>
    postFault .configMismatch (some f.sender) none none none (changeState .isolated s)
  | .duplicate =>
    postFault .duplicateStation (some f.sender) none none none (changeState .isolated s)

/-- The end of an attempt in JOINING (R52, R103, R105). -/
def joiningEnds (a : Attempt) (s : State) : State :=
  match a.driven with
  | some ⟨_, _, _, .join _⟩ =>
    if joinTaken s.number (windowFields a.responses) then
      let s₁ := dropPurposes (fun x => x == .join) s
      s₁.setControl { s₁.control with joinReply := some (joinReplyInterval s) }
    else
      let s₁ := countSent false s
      if (exhausted s).isSome then joinTimedOut s₁ else s₁
  | some _ => s
  | none =>
    match goodFrame a with
    | some f =>
      match f.body with
      | .reply v n count _ p =>
        if n = s.number ∧ replyTaken f v (windowFields a.responses) then replyHeard f v count p s else s
      | _ => s
    | none => s

/-- The end of an attempt in LISTEN (R42, R99). -/
def listenObserves (head : Option Frame) (s : State) : State :=
  let again := s.setControl { s.control with quiet := some (quietInterval s) }
  if s.control.backoff.isSome then
    if head.isSome then s.setControl { s.control with headNoted := true } else s
  else
    match head, s.control.note with
    | none, _ => again
    | some _, none => changeState .joining s
    | some f, some c =>
      if setHas f.members s.number ∧ c + 1 < s.port.store.l then
        again.setControl { again.control with note := some (c + 1) }
      else changeState .joining s

/-- What the membership controller and the group record unit make of an attempt that has ended, by the
station state at its end (R40, R42, R44). DESIGN CHOICE: so it is too where a RESTART (R43) or the expiry of a
timer has taken the station into LISTEN, FOUNDING or JOINING within the attempt: an own FOUND or JOIN is judged
only in FOUNDING or JOINING, and in LISTEN the attempt is an observation (unsafe, log entry 33). -/
def attemptObserved (a : Attempt) (s : State) : State :=
  match s.control.state with
  | .syncing | .member | .leaving =>
    match s.record with
    | some r => memberJudges a r s
    | none => s
  | .departing => departingEnds a s
  | .founding => foundingEnds a s
  | .joining => joiningEnds a s
  | .listen => listenObserves (readableFrame a) s
  | .offline | .isolated => s

/-- Whether the bus interface reports this station's number seen (R39). -/
def ownNumberSeen (n : Station) (a : Attempt) : Bool :=
  (a.winnerLearned && a.winner == n && !a.requested) ||
    (a.driven.isNone && (readableFrame a).any (fun f => f.sender == n))

/-- DUPLICATE_SEEN at a station that holds a record (R39, R115). DESIGN CHOICE: it follows the faults of
the judgement of the same attempt (unsafe, log entry 12). -/
def postDuplicate (seen : Bool) (s : State) : State :=
  if seen && s.record.isSome then postFault .duplicateSeen (some s.number) none none none s else s

end Sys2Proof.Machine
end

