-- ==== Sys2Proof/Machine/BusInterface.lean ====
section
/-! DEFINITION. The bus interface (chapter 2): arbitration, the answer in the response window, and the
end of an attempt. -/

namespace Sys2Proof.Machine

/-! ### Arbitration (R26, R27) -/

/-- The stations in the order of the count upward from the pointer, wrapping from 15 to 0 (R27). -/
def countFrom (pointer : Station) : List Station :=
  (List.finRange 16).map (fun i => pointer + i)

/-- The winner of a request vector: the first requesting station from the pointer (R27). -/
def winnerOf (pointer : Station) (vector : StationSet) : Option Station :=
  (countFrom pointer).find? (setHas vector)

/-- Whether this station's own request line was driven at the sampling: as it stands, or, where it changed
since the arbitration opened, as `own` says, since both outcomes are allowed (R26). DEDUCED: a command that
comes between the sampling and the grant (R148) is carried out before the close, and `own` says what the
sampling had found (unsafe, log entry 21). -/
def sampledOwn (s : State) (own : Bool) : Bool :=
  if s.bus.requestChanged then own else s.bus.request

/-- The request vector: the lines of the others, with this station's own if it is driven (R26). -/
def requestVector (s : State) (others : StationSet) (own : Bool) : StationSet :=
  if own then setAdd others s.number else others

/-- An attempt in flight as it begins at the close of arbitration, with `own` for this station's own line at
the sampling (R23). -/
def newAttempt (s : State) (vector : StationSet) (own : Bool) (winner : Station)
    (driven : Option Frame) : Attempt :=
  { vector := vector, winner := winner, winnerLearned := s.bus.learned, requested := own,
    stateAtClose := s.control.state, driven := driven, framed := false, words := [], crc := 0xFFFF,
    readback := none, answer := none, responses := [], discard := false }

/-- A grant in FOUNDING with the foreign-attempt flag set replaces the FOUND by a JOIN (R101). -/
def foundReplaced (s : State) : State :=
  if s.control.state = .founding ∧ s.control.foreign = true then changeState .joining s else s

/-- This station is granted: it builds its frame and begins the attempt as its sender, its request line
released (R25, R27, R89, R101). -/
def granted (vector : StationSet) (s : State) : State :=
  let g := foundReplaced s
  let a := newAttempt s vector true s.number (some (grantFrame g))
  let g' := agendaGrants g
  g'.setBus { g'.bus with
    attempt := some a, arbitrating := false, request := false, requestChanged := false }

/-- Another station wins: this station is a receiver (R27). -/
def receives (vector : StationSet) (own : Bool) (winner : Station) (s : State) : State :=
  s.setBus { s.bus with
    attempt := some (newAttempt s vector own winner none), arbitrating := false,
    requestChanged := false }

/-- The close of arbitration at an observing station with no attempt in flight (R26, R27). A station granted
after its agenda stopped wanting the bus builds the next valid purpose or NULL (R26, R89, R148). DEDUCED: no
opening need have been seen by a station that has just begun to observe (unsafe, log entry 21). -/
def arbitrationCloses (lines : Sampling) (s : State) : State :=
  let driven := sampledOwn s lines.own
  let v := requestVector s lines.others driven
  match winnerOf s.bus.pointer v with
  | none => s.setBus { s.bus with arbitrating := false, requestChanged := false }
  | some w => if w = s.number ∧ driven = true then granted v s else receives v driven w s

/-- Whether the bus interface observes the bus now: observing, and the bus found at rest (R24). -/
def observes (s : State) : Bool := s.bus.observing && !s.bus.awaitRest

/-! ### The answer (R35 to R38) -/

/-- The answer of a member with copy `r` to the frame of winner `w`, good or not (R35). -/
def memberAnswer (me : Station) (r : Record) (w : Station) (good : Option Frame) : Answer :=
  match good with
  | none => .refuse .check
  | some f =>
    let headFree := match f.body with
      | .found _ | .join _ => true
      | _ => false
    if f.sender ≠ w ∨ (headFree = false ∧ (f.seq ≠ r.seq ∨ f.members ≠ r.members)) then .refuse .head
    else if contentOk me f.sender r f.body then .ack
    else .refuse .content

/-- The answer a receiver decides at the end of the frame, by its state at the close (R35 to R37).
DEDUCED: for every change of state during the attempt (unsafe, log entry 10). -/
def receiverAnswer (s : State) (a : Attempt) (good : Option Frame) : Answer :=
  match a.stateAtClose with
  | .syncing | .member | .leaving =>
    match s.record with
    | some r => memberAnswer s.number r a.winner good
    | none => .silent
  | .departing => .abstain
  | .joining => if good.isSome then .ack else .refuse .check
  | .listen | .founding | .offline | .isolated => .silent

/-- The sender's own answer, by its state at the close and its readback (R38). -/
def senderAnswer (a : Attempt) (passed : Bool) : Answer :=
  if a.stateAtClose = .departing then .abstain else if passed then .ack else .refuse .check

/-- The end of the frame: the words are classed and this station's answer is decided (R31, R32). The check
word register has run over the words driven at the sender (R29) and over the words read at a receiver. -/
def frameEnds (words : List Word16) (s : State) (a : Attempt) : Attempt :=
  let a₁ := { a with framed := true, words := words }
  match a.driven with
  | some f =>
    let passed := words == encodeFrame f
    { a₁ with
      crc := checkWord (encodeFrame f).dropLast, readback := some passed
      answer := some (senderAnswer a passed) }
  | none =>
    { a₁ with
      crc := checkWord words.dropLast, answer := some (receiverAnswer s a (decodeFrame words)) }

/-! ### The end of an attempt (R28, R34, R40) -/

/-- The pointer as the end of an observed attempt sets it (R28). DEDUCED: where the station entered LISTEN
during the attempt, the pointer before the attempt counts as unlearned, as it became then (R23; unsafe, log
entry 29). -/
def pointAfter (a : Attempt) (b : Bus) : Bus :=
  if b.learned then { b with pointer := a.winner + 1 }
  else match readableFrame a with
    | some f => { b with pointer := f.sender + 1, learned := true }
    | none => b

/-- The end of an attempt whose record is discarded: observing stops, and the idle timer with it (R24, R94). -/
def discardAttempt (s : State) : State :=
  stopIdle (clearSent (s.setBus { s.bus with attempt := none, observing := false, request := false }))

/-- The end of an attempt that was observed, with the response words read (R40): the pointer and the
idle timer, the judgement or what stands in its place, and the report of the own number. -/
def attemptEnds (responses : List Word16) (a₀ : Attempt) (s : State) : State :=
  let a := { a₀ with responses := responses }
  let s₁ := restartIdle (s.setBus { pointAfter a s.bus with attempt := none })
  let s₂ := attemptObserved a s₁
  let s₃ := postDuplicate (ownNumberSeen s.number a) s₂
  updateRequest (if a.driven.isSome then clearSent s₃ else s₃)

/-- The end of an attempt in flight, complete or broken (R24, R40). DEDUCED: after a START during an attempt
that is to be discarded, the wait for the bus at rest goes on past its end (safe, log entry 25). -/
def finishAttempt (responses : List Word16) (a : Attempt) (s : State) : State :=
  if a.discard then discardAttempt s else attemptEnds responses a s

end Sys2Proof.Machine
end

