-- ==== Sys2Proof/Machine/Operands.lean ====
section
/-! DEFINITION. What the host's words say: result codes, the arguments a command reads from the ARG
locations, and the layouts of the result words (R153, R172). -/

namespace Sys2Proof.Machine

/-! ### Result codes (R172) -/

def codeAccepted : Word32 := 1
def codeEmpty : Word32 := 2
def codeBusy : Word32 := 3
def codeFull : Word32 := 4
def codeStale : Word32 := 5
def codeBadArg : Word32 := 6
def codeRefusedState : Word32 := 7
def codeBadConfig : Word32 := 8

/-- The code of a station state (R172). -/
def stateCode : StationState → Nat
  | .offline => 0
  | .listen => 1
  | .founding => 2
  | .joining => 3
  | .syncing => 4
  | .member => 5
  | .leaving => 6
  | .departing => 7
  | .isolated => 8

/-- A value placed in the `width` bits of a host word from bit `lo` up. -/
def place (lo width v : Nat) : Word32 := BitVec.ofNat 32 (v % 2 ^ width) <<< lo

/-- A flag placed in bit `lo` of a host word. -/
def placeBit (lo : Nat) (b : Bool) : Word32 := place lo 1 b.toNat

/-! ### Arguments -/

/-- The value of an argument word. -/
def arg0 (s : State) : Nat := s.port.arg0.toNat
/-- The value of ARG1. -/
def arg1 (s : State) : Nat := s.port.arg1.toNat
/-- The value of ARG2. -/
def arg2 (s : State) : Nat := s.port.arg2.toNat
/-- The value of ARG3. -/
def arg3 (s : State) : Nat := s.port.arg3.toNat

/-- The slot and tag FINISH names, if both are in range (R143, R154, R172). -/
def finishHandle (s : State) : Option Handle :=
  if h : arg0 s < 32 then
    if arg1 s < 65536 then some ⟨⟨arg0 s, h⟩, BitVec.ofNat 16 (arg1 s)⟩ else none
  else none

/-- The line ENABLE_LINE names, if in range (R129). -/
def argLine (s : State) : Option Line := if h : arg0 s < 16 then some ⟨arg0 s, h⟩ else none

/-- The slot INSPECT names, if in range (R165). -/
def argSlot (s : State) : Option Slot := if h : arg0 s < 32 then some ⟨arg0 s, h⟩ else none

/-- The arguments of RAISE as read from the window (R130, R172). -/
structure RaiseArgs where
  code : Nat
  priority : Nat
  targets : StationSet
  payload : Word32
  timeout : Nat
  deriving DecidableEq, Repr

/-- Read the arguments of RAISE: code in bits 15..0 and priority in bits 23..16 of ARG0, target set in
bits 15..0 of ARG1, payload in ARG2, timeout in ARG3 (R172). -/
def raiseArgs (s : State) : RaiseArgs :=
  { code := (field 0 16 s.port.arg0).toNat
    priority := (field 16 8 s.port.arg0).toNat
    targets := field 0 16 s.port.arg1
    payload := s.port.arg2
    timeout := arg3 s }

/-- The range checks of RAISE (R130). -/
def raiseArgsOk (a : RaiseArgs) : Bool :=
  decide (a.code ≤ 8191) && decide (a.priority ≤ 7) && a.targets != 0 && decide (a.timeout ≤ 65535)

/-! ### Configuration items (R155, R172) -/

/-- Whether SET accepts an item, index and value as in range (R155, R172). The index is read for line
and filter items only. -/
def setInRange (item index value : Nat) : Bool :=
  match item with
  | 1 => decide (1 ≤ value ∧ value ≤ 32)
  | 2 => decide (2 ≤ value ∧ value ≤ 7)
  | 3 => decide (1 ≤ value ∧ value ≤ 15)
  | 4 => decide (1 ≤ value ∧ value ≤ 7)
  | 5 => decide (1 ≤ value ∧ value ≤ 20)
  | 6 => decide (1 ≤ value ∧ value ≤ 50)
  | 7 => decide (value ≤ 15)
  | 8 => decide (value ≤ 65535)
  | 9 => decide (index < 16 ∧ value ≤ 1)
  | 10 => decide (index < 16 ∧ value ≤ 3)
  | 11 => decide (index < 16 ∧ value ≤ 8191)
  | 12 => decide (index < 16 ∧ value ≤ 7)
  | 13 => decide (index < 16 ∧ value ≤ 65535)
  | 14 => decide (index < 16 ∧ value ≤ 65535)
  | 15 => decide (index < 4 ∧ value ≤ 1)
  | 16 => decide (index < 4 ∧ value ≤ 8191)
  | 17 => decide (index < 4 ∧ value ≤ 8191)
  | _ => false

/-- The mode a value of the line mode item names (R172). -/
def modeOf (value : Nat) : LineMode :=
  match value with
  | 0 => .levelHigh
  | 1 => .levelLow
  | 2 => .edgeRise
  | _ => .edgeFall

/-- A line record after SET has changed its configuration (R116). -/
def lineReset (l : LineRecord) : LineRecord :=
  { l with memo := false, handle := none, state := if l.enabled then .idle else .disabled }

/-- Change one line's configuration by SET, resetting its record (R116). -/
def setLine (index : Nat) (f : LineRecord → LineRecord) (s : State) : State :=
  changeLine (Fin.ofNat 16 index) (fun l => lineReset (f l)) s

/-- Change one filter by SET (R135). -/
def setFilter (index : Nat) (f : Filter → Filter) (s : State) : State :=
  let i := Fin.ofNat 4 index
  s.setClaim { s.claim with filters := s.claim.filters.set i.val (f s.claim.filters[i]) }

/-- Change the store by SET. -/
def setStore (f : Store → Store) (s : State) : State :=
  s.setPort { s.port with store := f s.port.store }

/-- The item named takes the value (R155). -/
def setItem (item index value : Nat) : State → State :=
  match item with
  | 1 => setStore (fun c => { c with q := value })
  | 2 => setStore (fun c => { c with e := value })
  | 3 => setStore (fun c => { c with l := value })
  | 4 => setStore (fun c => { c with v := value })
  | 5 => setStore (fun c => { c with ti := value })
  | 6 => setStore (fun c => { c with tq := value })
  | 7 => setStore (fun c => { c with d := value })
  | 8 => setStore (fun c => { c with raiseTimeout := value })
  | 9 => setLine index (fun l => { l with enabled := value == 1 })
  | 10 => setLine index (fun l => { l with mode := modeOf value })
  | 11 => setLine index (fun l => { l with code := BitVec.ofNat 13 value })
  | 12 => setLine index (fun l => { l with priority := BitVec.ofNat 3 value })
  | 13 => setLine index (fun l => { l with targets := BitVec.ofNat 16 value })
  | 14 => setLine index (fun l => { l with timeout := value })
  | 15 => setFilter index (fun f => { f with enabled := value == 1 })
  | 16 => setFilter index (fun f => { f with base := BitVec.ofNat 13 value })
  | 17 => setFilter index (fun f => { f with mask := BitVec.ofNat 13 value })
  | _ => fun s => s

/-- The checks of the store as a whole at START (R156). -/
def configOk (s : State) : Bool :=
  let c := s.port.store
  decide (c.e < c.l) && decide (3 * (c.ti * Config.idleUnit) ≤ c.tq * Config.milli) &&
    decide (c.d ≤ Config.grantDepth) &&
    s.origin.lines.toList.all (fun l => !l.enabled || l.targets != 0)

/-! ### Result words (R172) -/

/-- The three result words of READ_GRANT. -/
def grantWords (g : Grant) : Word32 × Word32 × Word32 :=
  (placeBit 24 g.payload.isSome ||| place 16 5 g.handle.slot.val ||| place 0 16 g.handle.tag.toNat,
   place 20 4 g.origin.val ||| place 16 3 g.priority.toNat ||| place 0 13 g.code.toNat,
   g.payload.getD 0)

/-- The code of a completion's kind. -/
def Completion.kindCode : Completion → Nat
  | .finishDoneTaken _ | .finishLate _ => 1
  | .grantLostRevoked _ | .grantLostDeparted _ => 2
  | .raiseServiced _ | .raiseDropped _ | .raiseDiscarded _ => 3
  | .leaveLeft | .leaveAbandoned => 4

/-- The code of a completion's outcome. -/
def Completion.outcomeCode : Completion → Nat
  | .finishDoneTaken _ => 1
  | .finishLate _ => 2
  | .grantLostRevoked _ => 3
  | .grantLostDeparted _ => 4
  | .raiseServiced _ => 5
  | .raiseDropped _ => 6
  | .raiseDiscarded _ => 7
  | .leaveLeft => 8
  | .leaveAbandoned => 9

/-- What a completion names, as RESULT2 carries it. -/
def Completion.nameWord : Completion → Word32
  | .finishDoneTaken h | .finishLate h | .grantLostRevoked h | .grantLostDeparted h =>
    place 16 5 h.slot.val ||| place 0 16 h.tag.toNat
  | .raiseServiced id | .raiseDropped id | .raiseDiscarded id => place 0 8 id.toNat
  | .leaveLeft | .leaveAbandoned => 0

/-- The first result word of READ_COMPLETION. -/
def completionWord (c : Completion) : Word32 := place 8 4 c.outcomeCode ||| place 0 4 c.kindCode

/-- The code of a fault kind. -/
def FaultKind.code : FaultKind → Nat
  | .retryLimit => 1
  | .evicted => 2
  | .desync => 3
  | .configMismatch => 4
  | .duplicateStation => 5
  | .duplicateSeen => 6
  | .serviceFailed => 7
  | .joinTimeout => 8
  | .foundRefused => 9
  | .memberDeparted => 10

/-- The code of a fault's cause, 0 for none. -/
def causeCode : Option DepartureCause → Nat
  | none => 0
  | some .left => 1
  | some .evicted => 2
  | some .abstained => 3

/-- The first result word of READ_FAULT. -/
def faultWord (f : FaultRecord) : Word32 :=
  place 30 2 (causeCode f.cause) ||| place 24 4 (f.line.getD 0).val ||| place 16 5 (f.slot.getD 0).val |||
    place 12 4 (f.station.getD 0).val ||| placeBit 11 f.seq.isSome ||| placeBit 10 f.line.isSome |||
    placeBit 9 f.slot.isSome ||| placeBit 8 f.station.isSome ||| place 0 8 f.kind.code

/-- The three result words of INSPECT: all 0 for a free slot. -/
def inspectWords : Option Entry → Word32 × Word32 × Word32
  | none => (0, 0, 0)
  | some e =>
    (placeBit 31 true ||| placeBit 30 e.claimant.isSome ||| placeBit 29 e.orphan |||
       placeBit 28 e.payload.isSome ||| place 24 3 e.revokes ||| place 20 4 (e.claimant.getD 0).val |||
       place 16 4 e.origin.val ||| place 0 16 e.tag.toNat,
     place 16 16 e.targets.toNat ||| place 3 13 e.code.toNat ||| place 0 3 e.priority.toNat,
     e.payload.getD 0)

/-- The first result word of the STATUS command. -/
def statusWord (s : State) : Word32 :=
  placeBit 28 s.port.overflow ||| place 24 4 (unreadCount s) ||| place 20 4 s.claim.grants.length |||
    place 16 4 (stateCode s.control.state) ||| place 0 16 (copyMembers s).toNat

/-- The live word of the STATUS location (R164). -/
def statusLocation (s : State) : Word32 :=
  placeBit 26 s.port.overflow ||| place 22 4 s.port.faults.length ||| place 17 5 s.port.reserved |||
    place 12 5 s.port.completions.length ||| place 8 4 (unreadCount s) |||
    place 4 4 s.claim.grants.length ||| place 0 4 (stateCode s.control.state)

end Sys2Proof.Machine
end

