-- ==== Sys2Proof/Machine/Flags.lean ====
section
/-! DEFINITION. The interrupt causes and HOST_IRQ (R166, R167), and what a read of each location of the
window returns (R152). Reading has no effect on the station. -/

namespace Sys2Proof.Machine

/-- The GRANT cause (R151, R166). -/
def causeGrant (s : State) : Bool := decide (0 < unreadCount s)

/-- The COMPLETION cause (R166). -/
def causeCompletion (s : State) : Bool := !s.port.completions.isEmpty

/-- The FAULT cause (R166). -/
def causeFault (s : State) : Bool := !s.port.faults.isEmpty

/-- The causes present, in the bits of IRQ_CAUSE: STATE, FAULT, COMPLETION, GRANT (R166, R172). -/
def irqCauses (s : State) : BitVec 4 :=
  BitVec.ofBool s.port.stateCause ++ BitVec.ofBool (causeFault s) ++
    BitVec.ofBool (causeCompletion s) ++ BitVec.ofBool (causeGrant s)

/-- HOST_IRQ: active while a cause is present with its enable set (R167). -/
def hostIrq (s : State) : Bool := irqCauses s &&& s.port.mask != 0

/-- What a read of the window's word `loc` returns (R152, R172). -/
def windowRead (s : State) (loc : Fin 16) : Word32 :=
  match loc.val with
  | 0 => s.port.command
  | 1 => s.port.arg0
  | 2 => s.port.arg1
  | 3 => s.port.arg2
  | 4 => s.port.arg3
  | 5 => s.port.result0
  | 6 => s.port.result1
  | 7 => s.port.result2
  | 8 => s.port.result3
  | 9 => statusLocation s
  | 10 => (irqCauses s).setWidth 32
  | 11 => s.port.mask.setWidth 32
  | _ => 0

/-- What this station drives in its own field of the response window: nothing until the end of the
frame, then its answer (R33). -/
def drivenField (s : State) : BitVec 4 :=
  match s.bus.attempt with
  | some a => if a.framed then (a.answer.map fieldBits).getD 0 else 0
  | none => 0

/-- The words this station drives on SB_D in the attempt in flight: its frame as sender, none
otherwise (R29). -/
def drivenWords (s : State) : List Word16 :=
  match s.bus.attempt with
  | some a => (a.driven.map encodeFrame).getD []
  | none => []

end Sys2Proof.Machine
end

