-- ==== Sys2Proof/Machine/HostPort.lean ====
section
/-! DEFINITION. The host port (chapter 9): each command carried out whole as COMMAND is written, and
writes to the other locations. Checks come in the order of R154. -/

namespace Sys2Proof.Machine

/-- COMMAND is written with a code, which it reads from then on (R152). -/
def takeCommand (code : Word32) (s : State) : State := s.setPort { s.port with command := code }

/-- A command with a result code and no data (R153). -/
def answerCode (code : Word32) (s : State) : State := answerHost code 0 0 0 s

/-- Carry out SET (R154, R155). -/
def commandSet (s : State) : State :=
  if setInRange (arg0 s) (arg1 s) (arg2 s) = false then answerCode codeBadArg s
  else if s.control.state ≠ .offline ∨ s.port.store.locked = true then answerCode codeRefusedState s
  else answerCode codeAccepted (setItem (arg0 s) (arg1 s) (arg2 s) s)

/-- Carry out START (R98, R156). -/
def commandStart (s : State) : State :=
  if s.control.state ≠ .offline then answerCode codeRefusedState s
  else if configOk s = false then answerCode codeBadConfig s
  else
    answerCode codeAccepted
      (changeState .listen (startObserving (setStore (fun c => { c with locked := true }) s)))

/-- What RESTART does outside OFFLINE (R112). DEDUCED: in LISTEN it enters LISTEN anew (unsafe, log
entry 11). -/
def restartFrom (s : State) : State :=
  match s.control.state with
  | .offline => s
  | .member | .syncing => enterDeparting .restart s
  | .leaving => enterDeparting .restart (postCompletions [.leaveAbandoned] s)
  | .departing =>
    let s' := if s.control.cause = some .leave then postCompletions [.leaveAbandoned] s else s
    s'.setControl { s'.control with cause := some .restart }
  | .isolated => listenWithBackoff (startObserving (s.setControl { s.control with note := none }))
  | .listen | .founding | .joining =>
    listenWithBackoff (s.setControl { s.control with note := none })

/-- Carry out RESTART (R112). -/
def commandRestart (s : State) : State :=
  if s.control.state = .offline then answerCode codeRefusedState s
  else answerCode codeAccepted (updateRequest (restartFrom s))

/-- Whether LEAVE is taken in the present state (R111, R157). -/
def leaveAllowed (s : State) : Bool :=
  match s.control.state with
  | .offline | .leaving => false
  | .departing => s.control.cause != some .leave
  | .listen | .founding | .joining | .syncing | .member | .isolated => true

/-- What an accepted LEAVE does, its reservation taken (R111, R157). -/
def leaveFrom (s : State) : State :=
  match s.control.state with
  | .member | .syncing => addPurpose .leave (changeState .leaving s)
  | .departing => s.setControl { s.control with cause := some .leave }
  | .listen | .founding | .joining | .isolated => leaveEnds s
  | .offline | .leaving => s

/-- Carry out LEAVE (R111, R157). -/
def commandLeave (s : State) : State :=
  if leaveAllowed s = false then answerCode codeRefusedState s
  else if freeReservations s = 0 then answerCode codeBusy s
  else answerCode codeAccepted (updateRequest (leaveFrom (reserve s)))

/-- Carry out PAUSE or RESUME (R148). -/
def commandPause (paused : Bool) (s : State) : State :=
  answerCode codeAccepted (updateRequest (updateWant (s.setClaim { s.claim with paused := paused })))

/-- The grant list with its oldest UNREAD record IN_SERVICE (R142). -/
def readOldest : List Grant → List Grant
  | [] => []
  | g :: gs => if g.state = .unread then { g with state := .inService } :: gs else g :: readOldest gs

/-- Carry out READ_GRANT (R142). -/
def commandReadGrant (s : State) : State :=
  match s.claim.grants.find? (fun g => g.state == .unread) with
  | none => answerCode codeEmpty s
  | some g =>
    if freeReservations s = 0 then answerCode codeBusy s
    else
      let w := grantWords g
      answerHost codeAccepted w.1 w.2.1 w.2.2
        (reserve (s.setClaim { s.claim with grants := readOldest s.claim.grants }))

/-- The grant list with the record of a handle FINISHING (R143). -/
def finishGrant (h : Handle) (gs : List Grant) : List Grant :=
  gs.map (fun g => if g.handle = h then { g with state := .finishing } else g)

/-- Carry out FINISH (R143). -/
def commandFinish (s : State) : State :=
  match finishHandle s with
  | none => answerCode codeBadArg s
  | some h =>
    match s.claim.grants.find? (fun g => g.handle == h) with
    | none => answerCode codeStale s
    | some g =>
      if g.state = .inService ∧ s.control.state ≠ .departing then
        answerCode codeAccepted (updateRequest (addPurpose (.done h)
          (s.setClaim { s.claim with grants := finishGrant h s.claim.grants })))
      else answerCode codeRefusedState s

/-- The raise id RAISE assigns: the first value from the counter up that no raise record holds
(R130). -/
def nextRaiseId (s : State) : RaiseId :=
  (((List.range 256).map (fun i => s.origin.nextRaise + BitVec.ofNat 8 i)).find?
    (fun id => (raiseWith s id).isNone)).getD s.origin.nextRaise

/-- The raise record RAISE appends (R130). -/
def raisedRecord (id : RaiseId) (a : RaiseArgs) : RaiseRecord :=
  { id := id, code := BitVec.ofNat 13 a.code, priority := BitVec.ofNat 3 a.priority,
    targets := a.targets, payload := a.payload, timeout := a.timeout, state := .queued,
    handle := none, timer := none }

/-- An accepted RAISE: the id and the counter, the reservation, the record and, in MEMBER, its OFFER
purpose (R130). -/
def raiseAccepted (id : RaiseId) (a : RaiseArgs) (s : State) : State :=
  let r := raisedRecord id a
  let s' := reserve (s.setOrigin { s.origin with
    raises := s.origin.raises ++ [r], nextRaise := id + 1 })
  if s.control.state = .member then addPurpose (.offer (.raise id) r.priority) s' else s'

/-- Carry out RAISE (R130). -/
def commandRaise (s : State) : State :=
  let a := raiseArgs s
  if raiseArgsOk a = false then answerCode codeBadArg s
  else if Config.raiseDepth ≤ s.origin.raises.length then answerCode codeFull s
  else if freeReservations s = 0 then answerCode codeBusy s
  else
    let id := nextRaiseId s
    answerHost codeAccepted (place 0 8 id.toNat) 0 0 (updateRequest (raiseAccepted id a s))

/-- Carry out ENABLE_LINE (R129). -/
def commandEnableLine (s : State) : State :=
  match argLine s with
  | none => answerCode codeBadArg s
  | some n =>
    if s.origin.lines[n].state = .holdoff then
      answerCode codeAccepted (updateRequest
        (evaluateLine n (changeLine n (fun l => { l with state := .idle }) s)))
    else answerCode codeRefusedState s

/-- Carry out READ_COMPLETION (R160). -/
def commandReadCompletion (s : State) : State :=
  match s.port.completions with
  | [] => answerCode codeEmpty s
  | c :: cs =>
    answerHost codeAccepted (completionWord c) c.nameWord 0
      (s.setPort { s.port with completions := cs })

/-- Carry out READ_FAULT (R163). -/
def commandReadFault (s : State) : State :=
  match s.port.faults with
  | [] => answerCode codeEmpty s
  | f :: fs =>
    answerHost codeAccepted (faultWord f) f.stamp (place 0 16 (f.seq.getD 0).toNat)
      (s.setPort { s.port with faults := fs })

/-- Carry out INSPECT (R165). -/
def commandInspect (s : State) : State :=
  match argSlot s with
  | none => answerCode codeBadArg s
  | some k =>
    if s.control.state = .member ∨ s.control.state = .syncing then
      let w := inspectWords (s.record.bind (fun r => entryAt r k))
      answerHost codeAccepted w.1 w.2.1 w.2.2 s
    else answerCode codeRefusedState s

/-- Carry out the STATUS command: the snapshot, then the STATE cause and the overflow flag cleared
(R164). -/
def commandStatus (s : State) : State :=
  let s' := answerHost codeAccepted (statusWord s) (place 0 16 (copySeq s).toNat) s.port.clock s
  s'.setPort { s'.port with stateCause := false, overflow := false }

/-- A write to COMMAND: the command its code names, or BAD_ARG when it names none (R153, R172). -/
def writeCommand (code : Word32) (s : State) : State :=
  let s' := takeCommand code s
  match code.toNat with
  | 1 => commandSet s'
  | 2 => commandStart s'
  | 3 => commandRestart s'
  | 4 => commandLeave s'
  | 5 => commandPause true s'
  | 6 => commandPause false s'
  | 7 => commandReadGrant s'
  | 8 => commandFinish s'
  | 9 => commandRaise s'
  | 10 => commandEnableLine s'
  | 11 => commandReadCompletion s'
  | 12 => commandReadFault s'
  | 13 => commandInspect s'
  | 14 => commandStatus s'
  | _ => answerCode codeBadArg s'

/-- A write to IRQ_MASK: all four enables at once (R167); bits 31..4 are ignored (R172). -/
def writeMask (value : Word32) (s : State) : State :=
  s.setPort { s.port with mask := field 0 4 value }

/-- A write to a location of the window (R152). -/
def writeWindow (loc : Fin 16) (value : Word32) (s : State) : State :=
  match loc.val with
  | 0 => writeCommand value s
  | 1 => s.setPort { s.port with arg0 := value }
  | 2 => s.setPort { s.port with arg1 := value }
  | 3 => s.setPort { s.port with arg2 := value }
  | 4 => s.setPort { s.port with arg3 := value }
  | 11 => writeMask value s
  | _ => s

end Sys2Proof.Machine
end

