-- ==== Sys2Proof/Machine/HostCommands.lean ====
section
/-! DEFINITION. The meanings of reset and of the host's writes: one definition for each command. -/

namespace Sys2Proof.Machine

/-- POWER_ON_RESET: every block at its reset values, the station number as the pins read it (R22, R43).
DEDUCED: the input levels are the pins', and the commands that wait are not the station's, so both stay
(unsafe, log entry 24). -/
def execPowerOnReset (stnId : Station) (s : State) : Host.Outcome State Fault Refusal :=
  .next { State.reset with
    number := stnId
    origin := { Origin.reset with levels := s.origin.levels }
    pending := s.pending }

/-- SET (R155). -/
def execSet (s : State) : Host.Outcome State Fault Refusal := .next (commandSet (takeCommand 1 s))

/-- START (R98, R156). -/
def execStart (s : State) : Host.Outcome State Fault Refusal := .next (commandStart (takeCommand 2 s))

/-- RESTART (R112). -/
def execRestart (s : State) : Host.Outcome State Fault Refusal :=
  .next (commandRestart (takeCommand 3 s))

/-- LEAVE (R111, R157). -/
def execLeave (s : State) : Host.Outcome State Fault Refusal := .next (commandLeave (takeCommand 4 s))

/-- PAUSE (R148). -/
def execPause (s : State) : Host.Outcome State Fault Refusal :=
  .next (commandPause true (takeCommand 5 s))

/-- RESUME (R148). -/
def execResume (s : State) : Host.Outcome State Fault Refusal :=
  .next (commandPause false (takeCommand 6 s))

/-- READ_GRANT (R142). -/
def execReadGrant (s : State) : Host.Outcome State Fault Refusal :=
  .next (commandReadGrant (takeCommand 7 s))

/-- FINISH (R143). -/
def execFinish (s : State) : Host.Outcome State Fault Refusal :=
  .next (commandFinish (takeCommand 8 s))

/-- RAISE (R130). -/
def execRaise (s : State) : Host.Outcome State Fault Refusal := .next (commandRaise (takeCommand 9 s))

/-- ENABLE_LINE (R129). -/
def execEnableLine (s : State) : Host.Outcome State Fault Refusal :=
  .next (commandEnableLine (takeCommand 10 s))

/-- READ_COMPLETION (R160). -/
def execReadCompletion (s : State) : Host.Outcome State Fault Refusal :=
  .next (commandReadCompletion (takeCommand 11 s))

/-- READ_FAULT (R163). -/
def execReadFault (s : State) : Host.Outcome State Fault Refusal :=
  .next (commandReadFault (takeCommand 12 s))

/-- INSPECT (R165). -/
def execInspect (s : State) : Host.Outcome State Fault Refusal :=
  .next (commandInspect (takeCommand 13 s))

/-- STATUS (R164). -/
def execStatus (s : State) : Host.Outcome State Fault Refusal :=
  .next (commandStatus (takeCommand 14 s))

/-- UNKNOWN_COMMAND (R153): BAD_ARG. DESIGN CHOICE: an ill-formed term whose code names a command is
that command (safe, log entry 15). -/
def execUnknownCommand (code : Word32) (s : State) : Host.Outcome State Fault Refusal :=
  .next (writeCommand code s)

/-- IRQ_MASK_WRITE (R167). -/
def execIrqMaskWrite (value : Word32) (s : State) : Host.Outcome State Fault Refusal :=
  .next (writeMask value s)

/-- WINDOW_WRITE (R152): an ARG location takes the value, any other location without behaviour of its
own ignores it. DESIGN CHOICE: an ill-formed term that writes COMMAND or IRQ_MASK is that write (safe,
log entry 15). -/
def execWindowWrite (loc : Fin 16) (value : Word32) (s : State) : Host.Outcome State Fault Refusal :=
  .next (writeWindow loc value s)

end Sys2Proof.Machine
end

