-- ==== Sys2Proof/Machine/LineAndBusEvents.lean ====
section
/-! DEFINITION. The meanings of the input changes and of the events of the share bus: one definition for
each command. DESIGN CHOICE: a bus event that cannot come in the present state (an end of a frame or of
an attempt with none in flight, a second opening or close) changes nothing (log entry 5). -/

namespace Sys2Proof.Machine

/-- EVENT_LINE_CHANGE (R117). -/
def execEventLineChange (line : Line) (level : Bool) (s : State) : Host.Outcome State Fault Refusal :=
  .next (updateRequest (inputChanges line level s))

/-- BUS_AT_REST (R24): a station that has started observing and waits for the bus to be at rest observes
from now on. -/
def execBusAtRest (s : State) : Host.Outcome State Fault Refusal :=
  .next (if s.bus.awaitRest = true ∧ s.bus.attempt = none then
      updateRequest (s.setBus { s.bus with awaitRest := false, observing := true })
    else s)

/-- ARBITRATION_OPEN (R26): on a free bus with some request line driven an arbitration opens. The request
line has not changed since. -/
def execArbitrationOpen (others : StationSet) (s : State) : Host.Outcome State Fault Refusal :=
  .next (if observes s = true ∧ s.bus.attempt = none ∧ s.bus.arbitrating = false ∧
        requestVector s others s.bus.request ≠ 0 then
      s.setBus { s.bus with arbitrating := true, requestChanged := false }
    else s)

/-- ARBITRATION_CLOSE (R26, R27): the request vector is sampled and the winner is granted. -/
def execArbitrationClose (lines : Sampling) (s : State) : Host.Outcome State Fault Refusal :=
  .next (if observes s = true ∧ s.bus.attempt = none then updateRequest (arbitrationCloses lines s)
    else s)

/-- FRAME_END (R31): the frame is classed and the answer decided. -/
def execFrameEnd (words : List Word16) (s : State) : Host.Outcome State Fault Refusal :=
  .next (match s.bus.attempt with
    | none => s
    | some a => if a.framed then s else s.setBus { s.bus with attempt := some (frameEnds words s a) })

/-- ATTEMPT_END (R40): the fourth response word has ended. -/
def execAttemptEnd (w0 w1 w2 w3 : Word16) (s : State) : Host.Outcome State Fault Refusal :=
  .next (match s.bus.attempt with
    | none => s
    | some a => if a.framed then finishAttempt [w0, w1, w2, w3] a s else s)

/-- ATTEMPT_BROKEN (R34): the stall interval has passed; no response word was strobed if the frame was
not complete, and at most three were. -/
def execAttemptBroken (strobed : List Word16) (s : State) : Host.Outcome State Fault Refusal :=
  .next (match s.bus.attempt with
    | none => s
    | some a => finishAttempt (if a.framed then strobed.take 3 else []) a s)

end Sys2Proof.Machine
end

