-- ==== Sys2Proof/Machine/Timers.lean ====
section
/-! DEFINITION. The meanings of the timer expiries: one definition for each command. A timer that is
stopped does not expire (Conventions, Time), so the expiry of a stopped timer changes nothing. -/

namespace Sys2Proof.Machine

/-- IDLE_TIMER_EXPIRY (R94): a BEACON purpose in SYNCING, MEMBER or LEAVING, and the timer is stopped. -/
def execIdleTimerExpiry (s : State) : Host.Outcome State Fault Refusal :=
  .next (if s.agenda.idle.isSome then
      let s' := s.setAgenda { s.agenda with idle := none }
      updateRequest (if s.control.state.judges then addPurpose .beacon s' else s')
    else s)

/-- DEPARTING_WAIT_EXPIRY (R41, R113): the departure NULL is added. -/
def execDepartingWaitExpiry (s : State) : Host.Outcome State Fault Refusal :=
  .next (if s.control.wait.isSome then
      updateRequest (addPurpose .departureNull (s.setControl { s.control with wait := none }))
    else s)

/-- QUIET_TIMER_EXPIRY (R99, R100): a station in LISTEN enters FOUNDING with a FOUND purpose. -/
def execQuietTimerExpiry (s : State) : Host.Outcome State Fault Refusal :=
  .next (if s.control.quiet.isSome ∧ s.control.state = .listen then
      updateRequest (changeState .founding s)
    else s)

/-- JOIN_REPLY_TIMER_EXPIRY (R103): LISTEN with an admission note, and JOIN_TIMEOUT. -/
def execJoinReplyTimerExpiry (s : State) : Host.Outcome State Fault Refusal :=
  .next (if s.control.joinReply.isSome ∧ s.control.state = .joining then
      updateRequest (joinTimedOut s)
    else s)

/-- What the expiry of the backoff timer does, the timer stopped (R99, R105). -/
def backoffEnds (noted : Bool) (follow : FollowOn) (s : State) : State :=
  match s.control.state with
  | .listen =>
    if noted then changeState .joining s
    else s.setControl { s.control with quiet := some (quietInterval s) }
  | .joining => if follow = .sendJoin then addPurpose .join s else s
  | .offline | .founding | .syncing | .member | .leaving | .departing | .isolated => s

/-- BACKOFF_TIMER_EXPIRY (R99, R105). -/
def execBackoffTimerExpiry (s : State) : Host.Outcome State Fault Refusal :=
  .next (match s.control.backoff with
    | none => s
    | some (_, follow) =>
      updateRequest (backoffEnds s.control.headNoted follow
        (s.setControl { s.control with backoff := none, headNoted := false })))

/-- SET_ASIDE_TIMER_EXPIRY (R92): the purpose of that age is no longer set aside. DESIGN CHOICE: the command
names the purpose by its age, which no two share (safe, log entry 17). -/
def execSetAsideTimerExpiry (age : Nat) (s : State) : Host.Outcome State Fault Refusal :=
  .next (if s.agenda.purposes.any (fun p => p.age == age && p.setAside.isSome) then
      updateRequest (s.setAgenda { s.agenda with
        purposes := s.agenda.purposes.map (fun p => if p.age = age then { p with setAside := none } else p) })
    else s)

/-- The claimant, in the copy, of the entry a handle names (R125). -/
def claimantOf (s : State) (h : Handle) : Option Station :=
  s.record.bind (fun r => (entryNamed r h).bind Entry.claimant)

/-- The REVOKE purpose for the record of a handle, timed against its present claimant (R125). DEDUCED: a
REVOKE still held for the handle from an earlier claim absorbs it and keeps the claimant it was timed against
(unsafe, log entry 31). -/
def addRevoke (source : Source) (h : Option Handle) (s : State) : State :=
  match h with
  | none => s
  | some h =>
    match claimantOf s h with
    | none => s
    | some c => addPurpose (.revoke h c source) s

/-- SERVICE_TIMER_EXPIRY (R125): the timer is stopped and a REVOKE purpose is added. -/
def execServiceTimerExpiry (source : Source) (s : State) : Host.Outcome State Fault Refusal :=
  .next (match source with
    | .line n =>
      if s.origin.lines[n].timer.isSome then
        updateRequest (addRevoke source s.origin.lines[n].handle
          (changeLine n (fun l => { l with timer := none }) s))
      else s
    | .raise id =>
      match raiseWith s id with
      | none => s
      | some r =>
        if r.timer.isSome then
          updateRequest (addRevoke source r.handle (changeRaise id (fun x => { x with timer := none }) s))
        else s)

end Sys2Proof.Machine
end

