-- ==== Sys2Proof/Machine/Dispatch.lean ====
section
/-! DEFINITION. The meaning of every command: one arm per constructor of Instr. -/

namespace Sys2Proof.Machine

/-- The effect of a command on everything but the queue of waiting commands. -/
def exec (i : Instr) (s : State) : Host.Outcome State Fault Refusal :=
  match i with
  | .powerOnReset stnId => Sys2Proof.Machine.execPowerOnReset stnId s
  | .set => Sys2Proof.Machine.execSet s
  | .start => Sys2Proof.Machine.execStart s
  | .restart => Sys2Proof.Machine.execRestart s
  | .leave => Sys2Proof.Machine.execLeave s
  | .pause => Sys2Proof.Machine.execPause s
  | .resume => Sys2Proof.Machine.execResume s
  | .readGrant => Sys2Proof.Machine.execReadGrant s
  | .finish => Sys2Proof.Machine.execFinish s
  | .raise => Sys2Proof.Machine.execRaise s
  | .enableLine => Sys2Proof.Machine.execEnableLine s
  | .readCompletion => Sys2Proof.Machine.execReadCompletion s
  | .readFault => Sys2Proof.Machine.execReadFault s
  | .inspect => Sys2Proof.Machine.execInspect s
  | .status => Sys2Proof.Machine.execStatus s
  | .unknownCommand code => Sys2Proof.Machine.execUnknownCommand code s
  | .irqMaskWrite value => Sys2Proof.Machine.execIrqMaskWrite value s
  | .windowWrite loc value => Sys2Proof.Machine.execWindowWrite loc value s
  | .eventLineChange line level => Sys2Proof.Machine.execEventLineChange line level s
  | .busAtRest => Sys2Proof.Machine.execBusAtRest s
  | .arbitrationOpen others => Sys2Proof.Machine.execArbitrationOpen others s
  | .arbitrationClose lines => Sys2Proof.Machine.execArbitrationClose lines s
  | .frameEnd words => Sys2Proof.Machine.execFrameEnd words s
  | .attemptEnd w0 w1 w2 w3 => Sys2Proof.Machine.execAttemptEnd w0 w1 w2 w3 s
  | .attemptBroken strobed => Sys2Proof.Machine.execAttemptBroken strobed s
  | .idleTimerExpiry => Sys2Proof.Machine.execIdleTimerExpiry s
  | .departingWaitExpiry => Sys2Proof.Machine.execDepartingWaitExpiry s
  | .quietTimerExpiry => Sys2Proof.Machine.execQuietTimerExpiry s
  | .joinReplyTimerExpiry => Sys2Proof.Machine.execJoinReplyTimerExpiry s
  | .backoffTimerExpiry => Sys2Proof.Machine.execBackoffTimerExpiry s
  | .setAsideTimerExpiry age => Sys2Proof.Machine.execSetAsideTimerExpiry age s
  | .serviceTimerExpiry source => Sys2Proof.Machine.execServiceTimerExpiry source s

end Sys2Proof.Machine
end

