-- ==== Sys2Proof/Safety.lean ====
section
/-! DEFINITION. What holds of the station in every state it can be in, block by block, and the words in
which the statements speak of a host command's answer. A part that would depend on what other stations
send is left out, so that each part can be kept by every step. -/

namespace Sys2Proof.Machine

/-! ### The group record -/

/-- The order list holds each occupied slot exactly once (R12). -/
abbrev Record.Ordered (r : Record) : Prop := (r.entries.map Entry.slot).Nodup

/-- The copy of the station, where it holds one, keeps its order list (R12). -/
abbrev RecordSound (s : State) : Prop := ∀ r ∈ s.record, r.Ordered

/-! ### The station's place (R1, R96, R97) -/

/-- A state in which the station is off the bus (R24). -/
abbrev State.off (s : State) : Prop := s.control.state = .offline ∨ s.control.state = .isolated

/-- A state in which the station judges (R1, R44). -/
abbrev State.judging (s : State) : Prop :=
  s.control.state = .syncing ∨ s.control.state = .member ∨ s.control.state = .leaving

/-- What the membership controller holds, and what the agenda holds, goes with the station state (R1, R84,
R85, R95, R96, R97). -/
abbrev PlaceSound (s : State) : Prop :=
  (s.record.isSome ↔ s.judging ∨ s.control.state = .departing) ∧
  (s.control.cause.isSome ↔ s.control.state = .departing) ∧
  (s.control.quiet.isSome → s.control.state = .listen) ∧
  (s.control.joinReply.isSome → s.control.state = .joining) ∧
  (s.control.wait.isSome → s.control.state = .departing) ∧
  (s.control.note.isSome → s.control.state = .listen) ∧
  (s.control.state = .listen → (s.control.quiet.isSome ↔ s.control.backoff = none)) ∧
  (s.off → s.agenda.purposes = [] ∧ s.control.backoff = none) ∧
  (∀ p ∈ s.agenda.purposes,
    (s.control.state = .syncing → p.aim = .leave ∨ p.aim = .beacon) ∧
    (s.control.state = .member ∨ s.control.state = .leaving →
      p.aim ≠ .join ∧ p.aim ≠ .found ∧ p.aim ≠ .departureNull) ∧
    (s.control.state = .founding → p.aim = .found) ∧ (s.control.state = .joining → p.aim = .join) ∧
    (s.control.state = .departing → p.aim = .departureNull) ∧
    s.control.state ≠ .listen ∧ ¬ s.off) ∧
  (s.control.state ≠ .offline → s.port.store.locked = true)

/-! ### The bus interface and the agenda's report -/

/-- This station is the sender of the attempt in flight. -/
def sending (s : State) : Bool := s.bus.attempt.any (fun a => a.driven.isSome)

/-- The request line follows the agenda's report while the station observes, and is released for the
whole of its own attempt (R25); an attempt in flight is one the station observes, unless its record is
to be discarded (R24); the idle timer runs only while it observes (R94); the sent purpose is that of an own
attempt (R84). -/
abbrev RequestSound (s : State) : Prop :=
  (s.bus.request = (s.bus.observing && !s.bus.awaitRest && !sending s && wantsBus s)) ∧
  (s.bus.attempt.isSome → s.bus.observing = true) ∧
  (∀ a ∈ s.bus.attempt, a.discard = true ↔ s.off ∨ s.bus.awaitRest = true) ∧
  (s.off → s.bus.awaitRest = false ∧ (s.bus.attempt = none → s.bus.observing = false)) ∧
  (s.agenda.idle.isSome → s.bus.observing = true) ∧
  (¬ s.off → s.bus.observing = true ∨ s.bus.awaitRest = true) ∧
  (s.agenda.sent.isSome → sending s = true)

/-- What the collection holds at most one purpose of (R84): a kind and handle for DONE, REVOKE and WITHDRAW,
whoever was timed and whatever the source; a source for OFFER, whatever its priority; and a kind for the
others, JOIN and FOUND counting as one. -/
def Aim.heldOnce : Aim → Nat × Option Handle × Option Source
  | .duty => (1, none, none)
  | .leave => (2, none, none)
  | .done h => (3, some h, none)
  | .revoke h _ _ => (4, some h, none)
  | .withdraw h _ => (5, some h, none)
  | .claim => (6, none, none)
  | .offer x _ => (7, none, some x)
  | .join => (8, none, none)
  | .found => (8, none, none)
  | .beacon => (9, none, none)
  | .departureNull => (10, none, none)

/-- The collection holds no two purposes that R84 forbids beside each other, ages are those of the
order of adding, and no attempt count has reached L (R84). -/
abbrev AgendaSound (s : State) : Prop :=
  s.agenda.purposes.Pairwise (fun p q => p.age < q.age ∧ p.aim.heldOnce ≠ q.aim.heldOnce) ∧
  (∀ p ∈ s.agenda.purposes, p.age < s.agenda.nextAge ∧ p.count < s.port.store.l) ∧
  1 ≤ s.port.store.l

/-! ### The host port's accounts -/

/-- Whether a LEAVE is held, which keeps a reservation (R157). -/
def leaveHeld (s : State) : Bool := s.control.state == .leaving || s.control.cause == some .leave

/-- The reservations that raise records, grant records the host has read and a held LEAVE keep (R159). -/
def reservationsDue (s : State) : Nat :=
  s.origin.raises.length + (s.claim.grants.filter (fun g => g.state != .unread)).length +
    (leaveHeld s).toNat

/-- The queues keep their bounds, and each reservation belongs to one record or leave (R116, R132, R158,
R159, R161). -/
abbrev AccountsSound (s : State) : Prop :=
  s.port.reserved = reservationsDue s ∧
  s.port.reserved + s.port.completions.length ≤ 16 ∧
  s.port.faults.length ≤ 8 ∧
  s.origin.raises.length ≤ 8 ∧
  (s.origin.raises.map RaiseRecord.id).Nodup

/-! ### The grant list (R141) -/

/-- Whether the attempt in flight carries a CLAIM of this station. -/
def claimInFlight (s : State) : Bool :=
  s.bus.attempt.any (fun a => a.driven.any (fun f => match f.body with | .claim _ => true | _ => false))

/-- At most D grant records, no two of one slot; while the station judges, each names an entry that is
CLAIMED by this station with the record's tag; outside a group the list is empty (R141, R149). -/
abbrev GrantsSound (s : State) : Prop :=
  s.claim.grants.length ≤ s.port.store.d ∧
  (claimInFlight s = true → s.claim.grants.length < s.port.store.d ∧ s.port.store.locked = true) ∧
  (s.claim.grants.map (fun g => g.handle.slot)).Nodup ∧
  (s.judging → ∀ r ∈ s.record, ∀ g ∈ s.claim.grants,
    ∃ e ∈ r.entries, e.slot = g.handle.slot ∧ e.tag = g.handle.tag ∧ e.claimant = some s.number) ∧
  (s.claim.grants ≠ [] →
    s.control.state = .member ∨ s.control.state = .leaving ∨ s.control.state = .departing)

/-! ### All of it -/

/-- The parts together. -/
abbrev Sound (s : State) : Prop :=
  RecordSound s ∧ PlaceSound s ∧ RequestSound s ∧ AgendaSound s ∧ AccountsSound s ∧ GrantsSound s

/-! ### A host command's answer -/

/-- The code that COMMAND is written with, for a command that is a write to COMMAND (R172). -/
def hostCode : Instr → Option Word32
  | .set => some 1
  | .start => some 2
  | .restart => some 3
  | .leave => some 4
  | .pause => some 5
  | .resume => some 6
  | .readGrant => some 7
  | .finish => some 8
  | .raise => some 9
  | .enableLine => some 10
  | .readCompletion => some 11
  | .readFault => some 12
  | .inspect => some 13
  | .status => some 14
  | .unknownCommand code => some code
  | .powerOnReset _ | .irqMaskWrite _ | .windowWrite _ _ | .eventLineChange _ _ | .busAtRest
  | .arbitrationOpen _ | .arbitrationClose _ | .frameEnd _ | .attemptEnd _ _ _ _ | .attemptBroken _
  | .idleTimerExpiry | .departingWaitExpiry | .quietTimerExpiry | .joinReplyTimerExpiry
  | .backoffTimerExpiry | .setAsideTimerExpiry _ | .serviceTimerExpiry _ => none

/-- The state with the window as a command leaves it: COMMAND reads the code and the result words stand
as given (R152, R153). -/
def answered (code r0 r1 r2 r3 : Word32) (s : State) : State :=
  s.setPort { s.port with command := code, result0 := r0, result1 := r1, result2 := r2, result3 := r3 }

/-- The codes of R172 for a completion: kind, outcome, and the word that names what it concerns. -/
def completionCodes : Completion → Nat × Nat × Word32
  | .finishDoneTaken h => (1, 1, 0#11 ++ BitVec.ofNat 5 h.slot.val ++ h.tag)
  | .finishLate h => (1, 2, 0#11 ++ BitVec.ofNat 5 h.slot.val ++ h.tag)
  | .grantLostRevoked h => (2, 3, 0#11 ++ BitVec.ofNat 5 h.slot.val ++ h.tag)
  | .grantLostDeparted h => (2, 4, 0#11 ++ BitVec.ofNat 5 h.slot.val ++ h.tag)
  | .raiseServiced id => (3, 5, 0#24 ++ id)
  | .raiseDropped id => (3, 6, 0#24 ++ id)
  | .raiseDiscarded id => (3, 7, 0#24 ++ id)
  | .leaveLeft => (4, 8, 0)
  | .leaveAbandoned => (4, 9, 0)

/-- The numbers of R172 for the fault kinds. -/
def faultKindNumber : FaultKind → Nat
  | .retryLimit => 1
  | .evicted => 2
  | .desync => 3
  | .configMismatch => 4
  | .duplicateStation => 5
  | .duplicateSeen => 6
  | .serviceFailed => 7
  | .joinTimeout => 8
  | .foundRefused => 9
  | .memberDeparted => 10

/-- The numbers of R172 for the cause of a fault, 0 for none. -/
def causeNumber : Option DepartureCause → Nat
  | none => 0
  | some .left => 1
  | some .evicted => 2
  | some .abstained => 3

/-- The numbers of R172 for the station states. -/
def stateNumber : StationState → Nat
  | .offline => 0
  | .listen => 1
  | .founding => 2
  | .joining => 3
  | .syncing => 4
  | .member => 5
  | .leaving => 6
  | .departing => 7
  | .isolated => 8

/-- The bus interface as b has it, with the request line as c has it: what a command may leave that bears on
the bus by the agenda's report alone (R25). -/
abbrev Bus.requestAs (b c : Bus) : Bus :=
  { b with request := c.request, requestChanged := c.requestChanged }

/-- The agenda with a purpose for the aim added, the newest, with count 0 and no set-aside; where a purpose of
the same kind for the same source or handle is held, that one stays and nothing is added (R84). -/
def Agenda.gains (g : Agenda) (same : Aim → Bool) (a : Aim) : Agenda :=
  if g.purposes.any (fun p => same p.aim) then g
  else { g with
    purposes := g.purposes ++ [{ aim := a, age := g.nextAge, count := 0, setAside := none }]
    nextAge := g.nextAge + 1 }

/-- A purpose that is a WITHDRAW with the handle. -/
def withdrawOf (h : Handle) : Aim → Bool
  | .withdraw g _ => g == h
  | _ => false

/-- A purpose that is a REVOKE with the handle. -/
def revokeOf (h : Handle) : Aim → Bool
  | .revoke g _ _ => g == h
  | _ => false

/-- A purpose that is an OFFER for the source. -/
def offerOf (x : Source) : Aim → Bool
  | .offer y _ => y == x
  | _ => false

/-! ### Frames -/

/-- The group parameters fit their fields (R169). -/
abbrev Params.Encodable (p : Params) : Prop :=
  1 ≤ p.q ∧ p.q ≤ 32 ∧ p.e ≤ 7 ∧ p.v ≤ 7 ∧ p.l ≤ 15 ∧ p.ti ≤ 255

/-- Every field of the frame fits its place in the words of R169. -/
abbrev Frame.Encodable (f : Frame) : Prop :=
  match f.body with
  | .found p | .join p => p.Encodable
  | .reply _ _ count miss p => count ≤ 63 ∧ (∀ n : Station, miss[n] ≤ 7) ∧ p.Encodable
  | .entry position e => position ≤ 31 ∧ e.revokes ≤ 7
  | .close count => count ≤ 65535
  | .null | .offer .. | .claim _ | .done _ | .withdraw _ | .revoke _ | .leave | .beacon => True

/-- The number of body words by kind code and payload flag (R169). -/
def bodyLength (kind : Nat) (flag : Bool) : Nat :=
  match kind with
  | 1 | 2 => 2
  | 3 => 6
  | 4 => if flag then 7 else 5
  | 6 => if flag then 4 else 2
  | 5 | 7 | 8 | 9 | 10 => 1
  | _ => 0

/-- The number of a verdict (R169). -/
def verdictNumber : Verdict → Nat
  | .admitted => 0
  | .deferred => 1
  | .mismatch => 2
  | .duplicate => 3

/-- The two parameter words: Q - 1, E, V and L, then Ti (R169). -/
def paramLayout (p : Params) : List Word16 :=
  [BitVec.ofNat 5 (p.q - 1) ++ BitVec.ofNat 3 p.e ++ BitVec.ofNat 3 p.v ++ BitVec.ofNat 4 p.l ++ 0#1,
   BitVec.ofNat 8 p.ti ++ 0#8]

/-- The sixteen miss counts as one string of 48 bits, station 0 first, in three words (R169). -/
def missLayout (m : Vector Nat 16) : List Word16 :=
  let c := fun n : Station => BitVec.ofNat 3 m[n]
  let string : BitVec 48 := c 0 ++ c 1 ++ c 2 ++ c 3 ++ c 4 ++ c 5 ++ c 6 ++ c 7 ++
    c 8 ++ c 9 ++ c 10 ++ c 11 ++ c 12 ++ c 13 ++ c 14 ++ c 15
  [string.extractLsb' 32 16, string.extractLsb' 16 16, string.extractLsb' 0 16]

/-- What a kind puts into a frame (R30, R169): its code, the slot and the payload, and the body words before
the payload. -/
def Body.layout : Body → Nat × Nat × Option Word32 × List Word16
  | .null => (0, 0, none, [])
  | .found p => (1, 0, none, paramLayout p)
  | .join p => (2, 0, none, paramLayout p)
  | .reply verdict station count miss p => (3, 0, none,
      [BitVec.ofNat 2 (verdictNumber verdict) ++ BitVec.ofNat 4 station.val ++ BitVec.ofNat 6 count ++ 0#4] ++
        missLayout miss ++ paramLayout p)
  | .entry position e => (4, e.slot.val, e.payload,
      [BitVec.ofNat 5 position ++ BitVec.ofNat 3 e.revokes ++ BitVec.ofBool e.claimant.isSome ++
          BitVec.ofBool e.orphan ++ BitVec.ofNat 4 e.origin.val ++ 0#2,
        e.tag, e.code ++ e.priority, e.targets,
        (match e.claimant with | some c => BitVec.ofNat 4 c.val | none => 0#4) ++ 0#12])
  | .close count => (5, 0, none, [BitVec.ofNat 16 count])
  | .offer slot code priority targets payload => (6, slot.val, payload, [code ++ priority, targets])
  | .claim h => (7, h.slot.val, none, [h.tag])
  | .done h => (8, h.slot.val, none, [h.tag])
  | .withdraw h => (9, h.slot.val, none, [h.tag])
  | .revoke h => (10, h.slot.val, none, [h.tag])
  | .leave => (11, 0, none, [])
  | .beacon => (12, 0, none, [])

/-- The words of a frame before its check word, as R169 lays them out: the three head words, the body words,
and a payload as two words, bits 31 to 16 first. -/
def Frame.layout (f : Frame) : List Word16 :=
  let (kind, slot, payload, body) := f.body.layout
  [BitVec.ofNat 4 kind ++ BitVec.ofNat 4 f.sender.val ++ BitVec.ofNat 5 slot ++
      BitVec.ofBool payload.isSome ++ 0#2,
    f.seq, f.members] ++ body ++
    match payload with
    | some p => [p.extractLsb' 16 16, p.extractLsb' 0 16]
    | none => []

/-- The field of `width` bits from bit `lo` up of word k of a frame. -/
def bitsAt (ws : List Word16) (k lo width : Nat) : Nat := ((ws.getD k 0).extractLsb' lo width).toNat

/-- The group parameters stand in words k and k + 1 of the frame (R169). -/
def Params.StandIn (ws : List Word16) (k : Nat) (p : Params) : Prop :=
  p.q = bitsAt ws k 11 5 + 1 ∧ p.e = bitsAt ws k 8 3 ∧ p.v = bitsAt ws k 5 3 ∧ p.l = bitsAt ws k 1 4 ∧
  p.ti = bitsAt ws (k + 1) 8 8

/-- The fields of the frame stand in its words where R169 has them: head words 0 to 2, body words from word 3
on. The bits marked 0, and a claimant field when the state is OFFERED, may hold anything. -/
def Frame.StandsIn (ws : List Word16) (f : Frame) : Prop :=
  let slot := bitsAt ws 0 3 5
  let payload := fun k => if bitsAt ws 0 2 1 = 1 then some (ws.getD k 0 ++ ws.getD (k + 1) 0) else none
  f.body.layout.1 = bitsAt ws 0 12 4 ∧ f.sender.val = bitsAt ws 0 8 4 ∧
  f.seq.toNat = bitsAt ws 1 0 16 ∧ f.members.toNat = bitsAt ws 2 0 16 ∧
  match f.body with
  | .null | .leave | .beacon => True
  | .found p | .join p => p.StandIn ws 3
  | .reply verdict station count miss p =>
      verdictNumber verdict = bitsAt ws 3 14 2 ∧ station.val = bitsAt ws 3 10 4 ∧ count = bitsAt ws 3 4 6 ∧
      (∀ n : Station, miss[n] =
        ((ws.getD 4 0 ++ ws.getD 5 0 ++ ws.getD 6 0).extractLsb' (45 - 3 * n.val) 3).toNat) ∧
      p.StandIn ws 7
  | .entry position e =>
      e.slot.val = slot ∧ position = bitsAt ws 3 11 5 ∧ e.revokes = bitsAt ws 3 8 3 ∧
      e.claimant.map Fin.val = (if bitsAt ws 3 7 1 = 1 then some (bitsAt ws 7 12 4) else none) ∧
      (e.orphan = true ↔ bitsAt ws 3 6 1 = 1) ∧ e.origin.val = bitsAt ws 3 2 4 ∧
      e.tag.toNat = bitsAt ws 4 0 16 ∧ e.code.toNat = bitsAt ws 5 3 13 ∧
      e.priority.toNat = bitsAt ws 5 0 3 ∧ e.targets.toNat = bitsAt ws 6 0 16 ∧ e.payload = payload 8
  | .close count => count = bitsAt ws 3 0 16
  | .offer k code priority targets p =>
      k.val = slot ∧ code.toNat = bitsAt ws 3 3 13 ∧ priority.toNat = bitsAt ws 3 0 3 ∧
      targets.toNat = bitsAt ws 4 0 16 ∧ p = payload 5
  | .claim h | .done h | .withdraw h | .revoke h => h.slot.val = slot ∧ h.tag.toNat = bitsAt ws 3 0 16

/-- What a station drives in its field of the response window for its answer: the code and the inverted copy,
nothing for SILENT (R33, R171). -/
def Answer.driven : Answer → BitVec 4
  | .silent => 0#2 ++ 0#2
  | .ack => 1#2 ++ 2#2
  | .refuse _ => 2#2 ++ 1#2
  | .abstain => 3#2 ++ 0#2

/-! ### The laws of the record -/

/-- The laws of chapter 1 on an entry: its claimant is a member; offered, it is no orphan; no orphan, its
origin is a member; an orphan is CLAIMED; its revoke count is below V (R9, R10). -/
abbrev Entry.Lawful (r : Record) (e : Entry) : Prop :=
  (∀ c ∈ e.claimant, r.members.getLsbD c.val = true) ∧
  (e.claimant = none → e.orphan = false) ∧
  (e.orphan = false → r.members.getLsbD e.origin.val = true) ∧
  e.revokes < r.params.v

/-- The laws of chapter 1 on a join record: the respondent is the lowest-numbered member other than the
joiner; the joiner and each waiting station are members exactly with verdict ADMITTED or DUPLICATE; no
waiting verdict is ADMITTED; no station is named twice; the phase, cursor and expected count go together
(R15, R16, R17). -/
abbrev JoinRecord.Lawful (r : Record) (j : JoinRecord) : Prop :=
  r.members.getLsbD j.respondent.val = true ∧ j.respondent ≠ j.joiner ∧
  (∀ n : Station, r.members.getLsbD n.val = true → n ≠ j.joiner → j.respondent ≤ n) ∧
  (r.members.getLsbD j.joiner.val = true ↔ j.verdict = .admitted ∨ j.verdict = .duplicate) ∧
  (∀ w ∈ j.waiting, w.2 ≠ .admitted ∧ (r.members.getLsbD w.1.val = true ↔ w.2 = .duplicate)) ∧
  (j.joiner :: j.waiting.map Prod.fst).Nodup ∧
  (j.phase = .replyDue → j.cursor = 0 ∧ j.expected = 0) ∧
  (j.phase = .sending → j.verdict = .admitted ∧ j.cursor ≤ j.expected ∧
    j.expected = r.entries.length)

/-- The laws of the record at a station that is not the joiner: the order list, the entries, the quota,
the miss counts, E and V not 0, and the join record (R4, R7, R9, R10, R12, R14 to R17). -/
abbrev Record.Lawful (r : Record) : Prop :=
  r.Ordered ∧ (∀ e ∈ r.entries, e.Lawful r) ∧
  (∀ n : Station, if r.members.getLsbD n.val = true then
      r.miss[n] < r.params.e ∧
        (r.entries.filter (fun e => e.origin == n && !e.orphan)).length ≤ r.params.q
    else r.miss[n] = 0) ∧
  0 < r.params.e ∧ 0 < r.params.v ∧ (∀ j ∈ r.join, j.Lawful r)

/-! ### The end of an attempt -/

/-- A command that ends the attempt in flight: its fourth response word, or the stall (R34). -/
def endsAttempt (a : Attempt) (c : Instr) : Prop :=
  (a.framed = true ∧ ∃ w0 w1 w2 w3, c = .attemptEnd w0 w1 w2 w3) ∨ ∃ ws, c = .attemptBroken ws

/-- The response words an ending command leaves read: four, or those strobed before the stall, none when
the frame was not complete (R34). -/
def responsesOf (a : Attempt) (c : Instr) : List Word16 :=
  match c with
  | .attemptEnd w0 w1 w2 w3 => [w0, w1, w2, w3]
  | .attemptBroken ws => if a.framed then ws.take 3 else []
  | _ => []

/-- The frame of an attempt as the group record unit has it: the sender's own, or the one received good
(R31, R40). -/
def frameOf (a : Attempt) : Option Frame :=
  match a.driven with
  | some f => some f
  | none => if a.framed then decodeFrame a.words else none

/-- The frame whose head is readable at this station: received good, or read back at its sender (R31). -/
def headOf (a : Attempt) : Option Frame :=
  match a.driven with
  | some f => if a.readback = some true then some f else none
  | none => if a.framed then decodeFrame a.words else none

/-- The judgement a station with copy r makes when the command c ends the attempt a: from the winner, the
frame, the fields as read and, for its own REFUSE in a word that was strobed, the test that failed (R34, R40,
R44). -/
def judgementOf (s : State) (a : Attempt) (c : Instr) (r : Record) : Judgement :=
  judge s.number
    { winner := a.winner, isSender := a.driven.isSome, frame := frameOf a,
      fields := windowFields (responsesOf a c)
      refusal := match a.answer with
        | some (.refuse why) => if s.number.val / 4 < (responsesOf a c).length then some why else none
        | _ => none } r

/-- An attempt that the station observes comes to its end with the command c. -/
abbrev EndsWith (s : State) (a : Attempt) (c : Instr) : Prop :=
  s.bus.attempt = some a ∧ a.discard = false ∧ endsAttempt a c

/-- The changes of a judgement to the entry of a handle, in order. -/
def changesOf (j : Judgement) (h : Handle) : List EntryChange :=
  j.changes.filter (fun c => c.entry.slot == h.slot && c.entry.tag == h.tag)

/-- The station is the joiner that the copy admits (R13). -/
abbrev JoinsIn (n : Station) (r : Record) : Prop :=
  ∃ j, r.join = some j ∧ j.joiner = n ∧ j.verdict = .admitted

/-- A fault posted on the way to the state t: it is in the queue, unless the queue was full (R161). -/
abbrev Reported (t : State) (f : FaultRecord) : Prop :=
  f ∈ t.port.faults ∨ 8 ≤ t.port.faults.length ∧ t.port.overflow = true

/-- On entry to MEMBER from the state s the origin unit has offered what waited (R118): each level line in
IDLE that is active is in WANT; the OFFER purposes are those of the queued raises in list order, then those of
these lines in ascending number; and the purposes have their ages in that order. -/
def OffersWhatWaited (s t : State) : Prop :=
  let waits := fun n : Line => s.origin.lines[n].state = .idle ∧ lineActive s n = true
  (∀ n : Line, t.origin.lines[n] =
    if waits n then { s.origin.lines[n] with state := .want } else s.origin.lines[n]) ∧
  t.origin.raises = s.origin.raises ∧
  (t.agenda.purposes.map Purpose.aim).filter (fun a => match a with | .offer _ _ => true | _ => false) =
    (s.origin.raises.filter (fun x => x.state == .queued)).map
        (fun x => .offer (.raise x.id) x.priority) ++
      ((List.finRange 16).filter (fun n => decide (waits n))).map
        (fun n => .offer (.line n) s.origin.lines[n].priority) ∧
  t.agenda.purposes.Pairwise (fun p q => p.age < q.age)

/-! ### The configuration store, as R155 and R156 give it -/

/-- The rows of R155 and R172: item number, how many indexes it has (0: the index is not read), lowest
and highest value SET accepts. -/
def configRows : List (Nat × Nat × Nat × Nat) :=
  [(1, 0, 1, 32), (2, 0, 2, 7), (3, 0, 1, 15), (4, 0, 1, 7), (5, 0, 1, 20), (6, 0, 1, 50), (7, 0, 0, 15),
   (8, 0, 0, 65535), (9, 16, 0, 1), (10, 16, 0, 3), (11, 16, 0, 8191), (12, 16, 0, 7),
   (13, 16, 0, 65535), (14, 16, 0, 65535), (15, 4, 0, 1), (16, 4, 0, 8191), (17, 4, 0, 8191)]

/-- Whether R155 and R172 have a row for the item in which index and value are in range. -/
def configAccepts (item index value : Nat) : Prop :=
  ∃ r ∈ configRows, r.1 = item ∧ (r.2.1 = 0 ∨ index < r.2.1) ∧ r.2.2.1 ≤ value ∧ value ≤ r.2.2.2

/-- The checks of R156 on the store as a whole. -/
def startChecks (s : State) : Prop :=
  s.port.store.e < s.port.store.l ∧ 3 * s.port.store.ti * 250 ≤ s.port.store.tq * 1000 ∧
  s.port.store.d ≤ 8 ∧ ∀ n : Line, s.origin.lines[n].enabled = true → s.origin.lines[n].targets ≠ 0

end Sys2Proof.Machine
end

