-- ==== Sys2Proof/Certificates/Slice0/Obligations.lean ====
section
/-! DEFINITION. The statements for the provers. Each docstring names the rules of spec/ it follows. -/

open Sys2Proof Sys2Proof.Machine

/-! ### The machine -/

/-- The model's reading of a block as a queue of commands: a step carries out the command at the front on
the state with the queue's rest. With no command waiting the step is a microsecond of the clock of R161,
which counts on and wraps; that a step is a microsecond is the model's choice (log entry 3). -/
def Obligations.StepRunsFrontCommand : Prop :=
  (∀ (s : State) (c : Instr) (rest : List Instr), s.pending = c :: rest →
    step s = exec c (s.setPending rest)) ∧
  (∀ s : State, s.pending = [] → step s = .next (s.setPort { s.port with clock := s.port.clock + 1 }))

/-- R22, R26, R117, R148, R155, R161: every command of the table completes in every state, leaves the
commands that wait, and changes the station number and the clock by a reset alone, the input levels by
EVENT_LINE_CHANGE, the pause flag by PAUSE and RESUME, the lock by START, and the configuration of store,
lines and filters by SET. That no other command changes the clock is the model's choice: commands take no
time (log entry 3); R161 says only that the clock runs in every state. -/
def Obligations.CommandsChangeOnlyWhatIsTheirs : Prop :=
  ∀ (c : Instr) (s : State), ∃ t, exec c s = .next t ∧ t.pending = s.pending ∧
    (∀ n, c = .powerOnReset n → t.number = n) ∧
    ((∀ n, c ≠ .powerOnReset n) → wellFormed c = true →
      t.number = s.number ∧ t.port.clock = s.port.clock ∧
      ((∀ n level, c ≠ .eventLineChange n level) → t.origin.levels = s.origin.levels) ∧
      (c ≠ .pause → c ≠ .resume → t.claim.paused = s.claim.paused) ∧
      (c ≠ .start → t.port.store.locked = s.port.store.locked) ∧
      (c ≠ .set → { t.port.store with locked := false } = { s.port.store with locked := false } ∧
        t.claim.filters = s.claim.filters ∧
        ∀ n : Line, let l := s.origin.lines[n]; let l' := t.origin.lines[n]
          l'.enabled = l.enabled ∧ l'.mode = l.mode ∧ l'.code = l.code ∧ l'.priority = l.priority ∧
          l'.targets = l.targets ∧ l'.timeout = l.timeout))

/-- R23, R43, R84, R94, R96, R116, R135, R152, R155, R158, R159, R161, R166, R167: what a reset leaves.
The input levels are the pins', so they stay as they are (log entry 24). -/
def Obligations.PowerOnResetValues : Prop :=
  ∀ (n : Station) (s : State), ∃ t, exec (.powerOnReset n) s = .next t ∧
    t.number = n ∧ t.pending = s.pending ∧ t.record = none ∧
    t.bus = { pointer := 0, learned := false, observing := false, awaitRest := false,
              arbitrating := false, request := false, requestChanged := false, attempt := none } ∧
    t.agenda.purposes = [] ∧ t.agenda.sent = none ∧ t.agenda.idle = none ∧
    t.control = { state := .offline, cause := none, quiet := none, joinReply := none, backoff := none,
                  headNoted := false, wait := none, foreign := false, note := none } ∧
    (∀ k : Line, t.origin.lines[k] =
      { enabled := false, mode := .levelHigh, code := 0, priority := 0, targets := 0, timeout := 0,
        state := .disabled, memo := false, handle := none, timer := none }) ∧
    t.origin.raises = [] ∧ t.origin.nextRaise = 0 ∧ t.origin.levels = s.origin.levels ∧
    (∀ k : Fin 4, t.claim.filters[k] = { enabled := false, base := 0, mask := 0 }) ∧
    t.claim.paused = false ∧ t.claim.grants = [] ∧
    t.port.store = { q := 8, e := 3, l := 8, v := 3, ti := 4, tq := 4, d := 2, raiseTimeout := 100,
                     locked := false } ∧
    t.port.completions = [] ∧ t.port.reserved = 0 ∧ t.port.faults = [] ∧ t.port.overflow = false ∧
    t.port.clock = 0 ∧ (∀ loc : Fin 16, windowRead t loc = 0) ∧ hostIrq t = false

/-! ### The window and the host's commands -/

/-- R152, R153, R168: a write to ARG0..ARG3 is stored and reads back, a write to any other location without
a row of its own is ignored, and nothing else changes. Outside reset, the ARG locations change by writes to
them alone, the result words and COMMAND by commands alone, and the enables by a write to IRQ_MASK alone. -/
def Obligations.WindowLocationsChangeByTheirWrites : Prop :=
  (∀ (loc : Fin 16) (v : Word32) (s : State), loc ≠ 0 → loc ≠ 11 →
      ∃ t, exec (.windowWrite loc v) s = .next t ∧
        (∀ k : Fin 16, windowRead t k =
          if k = loc ∧ 1 ≤ loc.val ∧ loc.val ≤ 4 then v else windowRead s k) ∧
        t = s.setPort { s.port with
          arg0 := t.port.arg0, arg1 := t.port.arg1, arg2 := t.port.arg2, arg3 := t.port.arg3 }) ∧
  (∀ (c : Instr) (s t : State), wellFormed c = true → (∀ n, c ≠ .powerOnReset n) → exec c s = .next t →
      ((∀ loc v, c ≠ .windowWrite loc v) → t.port.arg0 = s.port.arg0 ∧ t.port.arg1 = s.port.arg1 ∧
        t.port.arg2 = s.port.arg2 ∧ t.port.arg3 = s.port.arg3) ∧
      (hostCode c = none → t.port.command = s.port.command ∧ t.port.result0 = s.port.result0 ∧
        t.port.result1 = s.port.result1 ∧ t.port.result2 = s.port.result2 ∧
        t.port.result3 = s.port.result3) ∧
      ((∀ v, c ≠ .irqMaskWrite v) → t.port.mask = s.port.mask))

/-- R153: a command's code is what COMMAND reads from then on, its result is one of the eight codes, and
a refused command changes nothing except the result words. A code that names no command is refused with
BAD_ARG. -/
def Obligations.RefusedCommandChangesOnlyResults : Prop :=
  (∀ (c : Instr) (code : Word32) (s t : State), hostCode c = some code → wellFormed c = true →
    exec c s = .next t →
      t.port.command = code ∧ 1 ≤ t.port.result0.toNat ∧ t.port.result0.toNat ≤ 8 ∧
      (t.port.result0 ≠ 1 → t = answered code t.port.result0 0 0 0 s)) ∧
  (∀ (code : Word32) (s : State), wellFormed (.unknownCommand code) = true →
    exec (.unknownCommand code) s = .next (answered code 6 0 0 0 s))

/-- R154, R155: SET checks its arguments, then the state and the lock; when it is accepted the item named
takes the value at once and every other item and block stays as it was. A line whose configuration is
set starts over as R116 gives. -/
def Obligations.SetChangesTheItemNamed : Prop :=
  ∀ s : State, let i := s.port.arg0.toNat; let x := s.port.arg1.toNat; let v := s.port.arg2.toNat
    (¬ configAccepts i x v → exec .set s = .next (answered 1 6 0 0 0 s)) ∧
    (configAccepts i x v → s.control.state ≠ .offline ∨ s.port.store.locked = true →
      exec .set s = .next (answered 1 7 0 0 0 s)) ∧
    (configAccepts i x v → s.control.state = .offline → s.port.store.locked = false →
      ∃ t, exec .set s = .next t ∧
        t = (((answered 1 1 0 0 0 s).setOrigin t.origin).setClaim t.claim).setPort
              { (answered 1 1 0 0 0 s).port with store := t.port.store } ∧
        t.origin = { s.origin with lines := t.origin.lines } ∧
        t.claim = { s.claim with filters := t.claim.filters } ∧
        t.port.store =
          (if i = 1 then { s.port.store with q := v }
           else if i = 2 then { s.port.store with e := v }
           else if i = 3 then { s.port.store with l := v }
           else if i = 4 then { s.port.store with v := v }
           else if i = 5 then { s.port.store with ti := v }
           else if i = 6 then { s.port.store with tq := v }
           else if i = 7 then { s.port.store with d := v }
           else if i = 8 then { s.port.store with raiseTimeout := v }
           else s.port.store) ∧
        (∀ n : Line, let l := s.origin.lines[n]
          let l' := if i = 9 then { l with enabled := decide (v = 1) }
            else if i = 10 then { l with mode :=
              if v = 0 then .levelHigh else if v = 1 then .levelLow else if v = 2 then .edgeRise
              else .edgeFall }
            else if i = 11 then { l with code := BitVec.ofNat 13 v }
            else if i = 12 then { l with priority := BitVec.ofNat 3 v }
            else if i = 13 then { l with targets := BitVec.ofNat 16 v }
            else { l with timeout := v }
          t.origin.lines[n] =
            if n.val = x ∧ 9 ≤ i ∧ i ≤ 14 then
              { l' with memo := false, handle := none,
                        state := if l'.enabled then .idle else .disabled }
            else l) ∧
        (∀ k : Fin 4, let f := s.claim.filters[k]
          t.claim.filters[k] =
            if k.val = x ∧ i = 15 then { f with enabled := decide (v = 1) }
            else if k.val = x ∧ i = 16 then { f with base := BitVec.ofNat 13 v }
            else if k.val = x ∧ i = 17 then { f with mask := BitVec.ofNat 13 v }
            else f))

/-- R98, R156: START outside OFFLINE is REFUSED_STATE; in OFFLINE a store that fails a check is
BAD_CONFIG; otherwise the store is locked and the station enters LISTEN, waiting for the bus to be at
rest, with pointer 0 unlearned, the quiet timer running for Tq and the STATE cause raised. -/
def Obligations.StartLocksAndListens : Prop :=
  ∀ s : State,
    (s.control.state ≠ .offline → exec .start s = .next (answered 2 7 0 0 0 s)) ∧
    (s.control.state = .offline → ¬ startChecks s → exec .start s = .next (answered 2 8 0 0 0 s)) ∧
    (s.control.state = .offline → startChecks s → PlaceSound s →
      exec .start s = .next
        (((s.setBus { s.bus with pointer := 0, learned := false, awaitRest := true }).setControl
            { s.control with state := .listen, quiet := some (s.port.store.tq * 1000) }).setPort
          { s.port with command := 2, result0 := 1, result1 := 0, result2 := 0, result3 := 0,
                        store := { s.port.store with locked := true }, stateCause := true }))

/-- R112, R113, R157: where RESTART takes the station from each state, what becomes of a held LEAVE, and
that the attempt in flight, the number, the input levels, the grants and the filters stay. That RESTART in
LISTEN enters LISTEN anew, with the STATE cause raised and the pointer 0 and unlearned, is the model's
reading (log entry 11). -/
def Obligations.RestartByStationState : Prop :=
  ∀ s : State, ∃ t, exec .restart s = .next t ∧
    (s.control.state = .offline → t = answered 3 7 0 0 0 s) ∧
    (s.control.state ≠ .offline →
      t.port.command = 3 ∧ t.port.result0 = 1 ∧ t.port.result1 = 0 ∧ t.port.result2 = 0 ∧
      t.port.result3 = 0 ∧ t.record = s.record ∧ t.claim = s.claim ∧ t.bus.attempt = s.bus.attempt ∧
      t.number = s.number ∧ t.origin.levels = s.origin.levels ∧ t.port.store = s.port.store ∧
      t.port.faults = s.port.faults ∧
      (if s.control.state = .leaving ∨ s.control.cause = some .leave ∧ s.control.state = .departing then
        t.port.completions = s.port.completions ++ [.leaveAbandoned] ∧
          t.port.reserved = s.port.reserved - 1
       else t.port.completions = s.port.completions ∧ t.port.reserved = s.port.reserved)) ∧
    (s.control.state = .member ∨ s.control.state = .syncing ∨ s.control.state = .leaving →
      t.control = { s.control with state := .departing, cause := some .restart,
                                   wait := some (s.port.store.ti * 250) } ∧
      t.agenda.purposes = [] ∧ t.port.stateCause = true ∧ t.bus.request = false ∧
      (∀ n : Line, t.origin.lines[n] = { s.origin.lines[n] with timer := none }) ∧
      t.origin.raises = s.origin.raises.map (fun r => { r with timer := none })) ∧
    (s.control.state = .departing →
      t.control = { s.control with cause := some .restart } ∧ t.agenda = s.agenda ∧
      t.origin = s.origin) ∧
    (s.control.state = .listen ∨ s.control.state = .founding ∨ s.control.state = .joining ∨
        s.control.state = .isolated →
      t.control.state = .listen ∧ t.control.cause = s.control.cause ∧
      t.control.backoff = some ((s.number.val + 1) * 100, .listen) ∧ t.control.quiet = none ∧
      t.control.note = none ∧ t.port.stateCause = true ∧
      t.bus.pointer = 0 ∧ t.bus.learned = false ∧ t.origin = s.origin ∧
      (s.control.state = .isolated → t.bus.awaitRest = true))

/-- R24, R94, R111, R157: which states take LEAVE, the reservation it takes, and where it leads: LEAVING with
a LEAVE purpose, OFFLINE at once with completion LEFT, or the departing cause LEAVE. Where it leads OFFLINE
the record of an attempt in flight is marked to be discarded, and with none observing stops and the idle
timer with it (R94). -/
def Obligations.LeaveByStationState : Prop :=
  ∀ s : State, ∃ t, exec .leave s = .next t ∧
    (let free := s.port.reserved + s.port.completions.length < 16
    (s.control.state = .offline ∨ s.control.state = .leaving ∨
        s.control.state = .departing ∧ s.control.cause = some .leave → t = answered 4 7 0 0 0 s) ∧
    (s.control.state ≠ .offline → s.control.state ≠ .leaving →
        ¬(s.control.state = .departing ∧ s.control.cause = some .leave) →
      (¬ free → t = answered 4 3 0 0 0 s) ∧
      (free → t.port.command = 4 ∧ t.port.result0 = 1 ∧ t.port.result1 = 0 ∧ t.port.result2 = 0 ∧
        t.port.result3 = 0 ∧ t.record = s.record ∧ t.claim = s.claim ∧ t.port.store = s.port.store ∧
        t.origin = s.origin ∧ t.port.faults = s.port.faults ∧
        (s.control.state = .member ∨ s.control.state = .syncing →
          t.control = { s.control with state := .leaving } ∧ t.port.stateCause = true ∧
          holdsAim (· == .claim) t = false ∧
          t.agenda.purposes.filter (fun p => p.aim != .claim) =
            (s.agenda.gains (· == .leave) .leave).purposes.filter (fun p => p.aim != .claim) ∧
          t.bus.attempt = s.bus.attempt ∧
          t.port.completions = s.port.completions ∧ t.port.reserved = s.port.reserved + 1) ∧
        (s.control.state = .departing →
          t.control = { s.control with cause := some .leave } ∧ t.bus.attempt = s.bus.attempt ∧
          t.port.completions = s.port.completions ∧ t.port.reserved = s.port.reserved + 1) ∧
        (s.control.state = .listen ∨ s.control.state = .founding ∨ s.control.state = .joining ∨
            s.control.state = .isolated →
          t.control.state = .offline ∧ t.control.quiet = none ∧ t.control.joinReply = none ∧
          t.control.backoff = none ∧ t.control.note = none ∧ t.agenda.purposes = [] ∧
          t.agenda.idle = (if s.bus.attempt = none then none else s.agenda.idle) ∧
          t.port.stateCause = true ∧ t.bus.request = false ∧
          t.bus.attempt = s.bus.attempt.map (fun a => { a with discard := true }) ∧
          (s.bus.attempt = none → t.bus.observing = false) ∧
          t.port.completions = s.port.completions ++ [.leaveLeft] ∧
          t.port.reserved = s.port.reserved))))

/-- R148: PAUSE sets the pause flag and RESUME clears it, in every state; then the claim unit's CLAIM
purpose stands exactly while it wants to claim and the state takes it in, and nothing else changes but
the request line and the answer. The sent purpose stays, so a CLAIM already granted goes on. -/
def Obligations.PauseAndResumeOnlyMoveTheWant : Prop :=
  ∀ s : State, ∀ p : Bool, ∃ t, exec (if p then .pause else .resume) s = .next t ∧
    t.claim = { s.claim with paused := p } ∧
    t.number = s.number ∧ t.record = s.record ∧ t.control = s.control ∧ t.origin = s.origin ∧
    t.bus = s.bus.requestAs t.bus ∧
    t.port = (answered (if p then 5 else 6) 1 0 0 0 s).port ∧
    t.agenda.sent = s.agenda.sent ∧ t.agenda.idle = s.agenda.idle ∧
    holdsAim (· == .claim) t = wantsToClaim t ∧
    t.agenda.purposes.filter (fun q => q.aim != .claim) =
      s.agenda.purposes.filter (fun q => q.aim != .claim) ∧
    (wantsToClaim t = true → holdsAim (· == .claim) s = true → t.agenda.purposes = s.agenda.purposes)

/-- R142: READ_GRANT hands out the oldest UNREAD grant record, which becomes IN_SERVICE and holds a
reservation; EMPTY is tested before BUSY; a refusal changes nothing. -/
def Obligations.ReadGrantTakesOldestUnread : Prop :=
  ∀ s : State,
    ((∀ g ∈ s.claim.grants, g.state ≠ .unread) → exec .readGrant s = .next (answered 7 2 0 0 0 s)) ∧
    (∀ (before after : List Grant) (g : Grant), s.claim.grants = before ++ g :: after →
      (∀ x ∈ before, x.state ≠ .unread) → g.state = .unread →
      (16 ≤ s.port.reserved + s.port.completions.length →
        exec .readGrant s = .next (answered 7 3 0 0 0 s)) ∧
      (s.port.reserved + s.port.completions.length < 16 →
        ∃ t, exec .readGrant s = .next t ∧
          t = (s.setClaim { s.claim with
                grants := before ++ { g with state := .inService } :: after }).setPort
              { s.port with command := 7, result0 := 1, result1 := t.port.result1,
                            result2 := t.port.result2, result3 := t.port.result3,
                            reserved := s.port.reserved + 1 } ∧
          t.port.result1 = 0#7 ++ BitVec.ofBool g.payload.isSome ++ 0#3 ++
            BitVec.ofNat 5 g.handle.slot.val ++ g.handle.tag ∧
          t.port.result2 = 0#8 ++ BitVec.ofNat 4 g.origin.val ++ 0#1 ++ g.priority ++ 0#3 ++ g.code ∧
          t.port.result3 = g.payload.getD 0))

/-- R84, R143: FINISH answers by the grant record its handle names, in the order of R154; when it is accepted
the record becomes FINISHING and a DONE purpose with the handle is added, which one held for it absorbs. -/
def Obligations.FinishByGrantRecord : Prop :=
  ∀ s : State, let slot := s.port.arg0.toNat; let tag := s.port.arg1.toNat
    (32 ≤ slot ∨ 65536 ≤ tag → exec .finish s = .next (answered 8 6 0 0 0 s)) ∧
    (slot < 32 → tag < 65536 →
      (∀ g ∈ s.claim.grants, ¬(g.handle.slot.val = slot ∧ g.handle.tag.toNat = tag)) →
      exec .finish s = .next (answered 8 5 0 0 0 s)) ∧
    (∀ g ∈ s.claim.grants, GrantsSound s → g.handle.slot.val = slot → g.handle.tag.toNat = tag →
      (g.state ≠ .inService ∨ s.control.state = .departing →
        exec .finish s = .next (answered 8 7 0 0 0 s)) ∧
      (g.state = .inService → s.control.state = .member ∨ s.control.state = .leaving →
        ∃ t, exec .finish s = .next t ∧
          t.number = s.number ∧ t.record = s.record ∧ t.control = s.control ∧ t.origin = s.origin ∧
          t.bus = s.bus.requestAs t.bus ∧
          t.port = (answered 8 1 0 0 0 s).port ∧
          t.claim = { s.claim with grants := s.claim.grants.map (fun x =>
            if x.handle = g.handle then { x with state := .finishing } else x) } ∧
          t.agenda = s.agenda.gains (· == .done g.handle) (.done g.handle)))

/-- R130, R131, R154: the checks of RAISE in their order, and what an accepted RAISE appends: a record QUEUED
at the end of the raise list, with the first id from the counter up that no record holds, on a reservation,
with an OFFER purpose of its priority at once in MEMBER and in no other state. -/
def Obligations.RaiseAppendsQueuedRecord : Prop :=
  ∀ s : State,
    let code := (s.port.arg0.extractLsb' 0 16).toNat
    let prio := (s.port.arg0.extractLsb' 16 8).toNat
    let targets := s.port.arg1.extractLsb' 0 16
    let argsOk := code ≤ 8191 ∧ prio ≤ 7 ∧ targets ≠ 0 ∧ s.port.arg3.toNat ≤ 65535
    (¬ argsOk → exec .raise s = .next (answered 9 6 0 0 0 s)) ∧
    (argsOk → 8 ≤ s.origin.raises.length → exec .raise s = .next (answered 9 4 0 0 0 s)) ∧
    (argsOk → s.origin.raises.length < 8 → 16 ≤ s.port.reserved + s.port.completions.length →
      exec .raise s = .next (answered 9 3 0 0 0 s)) ∧
    (argsOk → s.origin.raises.length < 8 → s.port.reserved + s.port.completions.length < 16 →
      ∃ (t : State) (id : RaiseId), exec .raise s = .next t ∧
        (∀ r ∈ s.origin.raises, r.id ≠ id) ∧
        (∀ k : Nat, k < (id - s.origin.nextRaise).toNat →
          ∃ r ∈ s.origin.raises, r.id = s.origin.nextRaise + BitVec.ofNat 8 k) ∧
        t.origin = { s.origin with
          nextRaise := id + 1
          raises := s.origin.raises ++ [{
            id := id, code := BitVec.ofNat 13 code, priority := BitVec.ofNat 3 prio, targets := targets,
            payload := s.port.arg2, timeout := s.port.arg3.toNat, state := .queued, handle := none,
            timer := none }] } ∧
        t.port = { s.port with command := 9, result0 := 1, result1 := id.setWidth 32, result2 := 0,
                               result3 := 0, reserved := s.port.reserved + 1 } ∧
        t.number = s.number ∧ t.record = s.record ∧ t.control = s.control ∧ t.claim = s.claim ∧
        t.bus = s.bus.requestAs t.bus ∧
        t.agenda = if s.control.state = .member then
            s.agenda.gains (offerOf (.raise id)) (.offer (.raise id) (BitVec.ofNat 3 prio))
          else s.agenda)

/-- R84, R129, R154: ENABLE_LINE returns a line in HOLDOFF to IDLE and evaluates it: a level line that is
active, with the station MEMBER, enters WANT at once with an OFFER purpose of its priority, which an OFFER
purpose of the line still held absorbs. -/
def Obligations.EnableLineLeavesHoldoff : Prop :=
  ∀ s : State,
    (16 ≤ s.port.arg0.toNat → exec .enableLine s = .next (answered 10 6 0 0 0 s)) ∧
    (∀ n : Line, s.port.arg0.toNat = n.val →
      (s.origin.lines[n].state ≠ .holdoff → exec .enableLine s = .next (answered 10 7 0 0 0 s)) ∧
      (s.origin.lines[n].state = .holdoff →
        ∃ t, exec .enableLine s = .next t ∧
          (∀ m : Line, t.origin.lines[m] =
            if m = n then { s.origin.lines[n] with state :=
              if s.control.state = .member ∧ lineActive s n = true then .want else .idle }
            else s.origin.lines[m]) ∧
          t.origin = { s.origin with lines := t.origin.lines } ∧
          t.agenda = (if s.control.state = .member ∧ lineActive s n = true then
              s.agenda.gains (offerOf (.line n)) (.offer (.line n) s.origin.lines[n].priority)
            else s.agenda) ∧
          t.port = (answered 10 1 0 0 0 s).port ∧ t.record = s.record ∧ t.control = s.control ∧
          t.claim = s.claim ∧ t.bus = s.bus.requestAs t.bus))

/-- R160, R163, R172: READ_COMPLETION removes the oldest completion and returns its kind, its outcome and
what it names; READ_FAULT removes the oldest fault and returns its fields, each field that is absent reading
0, and leaves the overflow flag; on an empty queue either answers EMPTY and changes nothing. -/
def Obligations.QueueReadsRemoveTheOldest : Prop :=
  (∀ s : State,
      (s.port.completions = [] → exec .readCompletion s = .next (answered 11 2 0 0 0 s)) ∧
      (∀ (c : Completion) (rest : List Completion), s.port.completions = c :: rest →
        exec .readCompletion s = .next
          ((answered 11 1 (0#20 ++ BitVec.ofNat 4 (completionCodes c).2.1 ++ 0#4 ++
              BitVec.ofNat 4 (completionCodes c).1) (completionCodes c).2.2 0 s).setPort
            { (answered 11 1 (0#20 ++ BitVec.ofNat 4 (completionCodes c).2.1 ++ 0#4 ++
                BitVec.ofNat 4 (completionCodes c).1) (completionCodes c).2.2 0 s).port with
              completions := rest }))) ∧
  (∀ s : State,
      (s.port.faults = [] → exec .readFault s = .next (answered 12 2 0 0 0 s)) ∧
      (∀ (f : FaultRecord) (rest : List FaultRecord), s.port.faults = f :: rest →
        ∃ t, exec .readFault s = .next t ∧
          t = s.setPort { s.port with
            command := 12, result0 := 1, result1 := t.port.result1, result2 := f.stamp,
            result3 := 0#16 ++ f.seq.getD 0, faults := rest } ∧
          t.port.result1 = BitVec.ofNat 2 (causeNumber f.cause) ++ 0#2 ++ BitVec.ofNat 4 (f.line.getD 0).val ++
            0#3 ++ BitVec.ofNat 5 (f.slot.getD 0).val ++ BitVec.ofNat 4 (f.station.getD 0).val ++
            BitVec.ofBool f.seq.isSome ++ BitVec.ofBool f.line.isSome ++ BitVec.ofBool f.slot.isSome ++
            BitVec.ofBool f.station.isSome ++ BitVec.ofNat 8 (faultKindNumber f.kind)))

/-- R21, R164, R165, R172: INSPECT is accepted in MEMBER and SYNCING and returns the entry of the slot, or 0
in all three words for a free slot; it changes nothing else. The STATUS command answers state, member set,
sequence, grant counts, overflow flag and clock, then clears the STATE cause and the overflow flag; the
STATUS location shows the live counts. -/
def Obligations.InspectAndStatusAnswer : Prop :=
  (∀ s : State,
      (32 ≤ s.port.arg0.toNat → exec .inspect s = .next (answered 13 6 0 0 0 s)) ∧
      (s.port.arg0.toNat < 32 → s.control.state ≠ .member → s.control.state ≠ .syncing →
        exec .inspect s = .next (answered 13 7 0 0 0 s)) ∧
      (s.control.state = .member ∨ s.control.state = .syncing → ∀ r : Record, s.record = some r →
        (s.port.arg0.toNat < 32 → (∀ e ∈ r.entries, e.slot.val ≠ s.port.arg0.toNat) →
          exec .inspect s = .next (answered 13 1 0 0 0 s)) ∧
        (∀ e ∈ r.entries, r.Ordered → e.slot.val = s.port.arg0.toNat → e.revokes ≤ 7 →
          exec .inspect s = .next (answered 13 1
            (1#1 ++ BitVec.ofBool e.claimant.isSome ++ BitVec.ofBool e.orphan ++
              BitVec.ofBool e.payload.isSome ++ 0#1 ++ BitVec.ofNat 3 e.revokes ++
              BitVec.ofNat 4 (e.claimant.getD 0).val ++ BitVec.ofNat 4 e.origin.val ++ e.tag)
            (e.targets ++ e.code ++ e.priority) (e.payload.getD 0) s)))) ∧
  (∀ s : State, s.claim.grants.length ≤ 8 → s.port.completions.length ≤ 16 → s.port.reserved ≤ 16 →
        s.port.faults.length ≤ 8 →
      let unread := (s.claim.grants.filter (fun g => g.state == .unread)).length
      exec .status s = .next
        (s.setPort { s.port with
          command := 14, result0 := 1
          result1 := 0#3 ++ BitVec.ofBool s.port.overflow ++ BitVec.ofNat 4 unread ++
            BitVec.ofNat 4 s.claim.grants.length ++ BitVec.ofNat 4 (stateNumber s.control.state) ++
            (match s.record with | some r => r.members | none => 0)
          result2 := 0#16 ++ (match s.record with | some r => r.seq | none => 0)
          result3 := s.port.clock, stateCause := false, overflow := false }) ∧
      windowRead s 9 = 0#5 ++ BitVec.ofBool s.port.overflow ++ BitVec.ofNat 4 s.port.faults.length ++
        BitVec.ofNat 5 s.port.reserved ++ BitVec.ofNat 5 s.port.completions.length ++
        BitVec.ofNat 4 unread ++ BitVec.ofNat 4 s.claim.grants.length ++
        BitVec.ofNat 4 (stateNumber s.control.state))

/-- R97, R166, R167: IRQ_CAUSE shows the four causes by their conditions, whether enabled or not; a write to
IRQ_MASK sets the four enables at once and nothing else; HOST_IRQ is active exactly while a cause is present
with its enable set; after a reset every enable is clear and HOST_IRQ is inactive. Every change of station
state raises the STATE cause, and nothing but the STATUS command and a reset clears it. -/
def Obligations.HostIrqFollowsItsCauses : Prop :=
  (∀ s : State,
      windowRead s 10 = 0#28 ++ BitVec.ofBool s.port.stateCause ++
        BitVec.ofBool (decide (s.port.faults ≠ [])) ++ BitVec.ofBool (decide (s.port.completions ≠ [])) ++
        BitVec.ofBool (decide (∃ g ∈ s.claim.grants, g.state = .unread)) ∧
      (hostIrq s = true ↔ ∃ i : Fin 4,
        (windowRead s 10).getLsbD i.val = true ∧ (windowRead s 11).getLsbD i.val = true) ∧
      (∀ v : Word32, ∃ t, exec (.irqMaskWrite v) s = .next t ∧
        t = s.setPort { s.port with mask := t.port.mask } ∧
        windowRead t 11 = 0#28 ++ v.extractLsb' 0 4)) ∧
  (∀ (n : Station) (s : State), ∃ t, exec (.powerOnReset n) s = .next t ∧
      windowRead t 11 = 0 ∧ hostIrq t = false) ∧
  (∀ (c : Instr) (s t : State), wellFormed c = true → (∀ n, c ≠ .powerOnReset n) → exec c s = .next t →
      (t.control.state ≠ s.control.state → t.port.stateCause = true) ∧
      (s.port.stateCause = true → c ≠ .status → t.port.stateCause = true))

/-! ### Event lines and timers -/

/-- R117, R118, R119, R121, R122, R134: what a change of its input means for a level line and for an edge
line, with the OFFER or WITHDRAW purpose it adds, and that it leaves every other line and block as it was;
and when a line is active: a level line by its input, an edge line never. That a level line in WANT which
becomes inactive in DEPARTING stays in WANT is the model's reading of R134 against R119 (log entry 18). -/
def Obligations.LinesFollowTheirInputs : Prop :=
  (∀ (s : State) (n : Line) (level : Bool), s.origin.levels.getLsbD n.val ≠ level →
      (s.origin.lines[n].mode = .levelHigh ∨ s.origin.lines[n].mode = .levelLow) →
      let l := s.origin.lines[n]
      let active := (l.mode == .levelHigh) == level
      ∃ t, exec (.eventLineChange n level) s = .next t ∧
        t = ((s.setAgenda t.agenda).setOrigin t.origin).setBus (s.bus.requestAs t.bus) ∧
        t.origin = { s.origin with levels := t.origin.levels, lines := t.origin.lines } ∧
        (∀ m : Line, t.origin.levels.getLsbD m.val = if m = n then level else s.origin.levels.getLsbD m.val) ∧
        (∀ m : Line, m ≠ n → t.origin.lines[m] = s.origin.lines[m]) ∧
        (if active = true ∧ l.state = .idle ∧ s.control.state = .member then
          t.origin.lines[n] = { l with state := .want } ∧
          t.agenda = s.agenda.gains (offerOf (.line n)) (.offer (.line n) l.priority)
        else if active = false ∧ l.state = .want ∧ s.control.state ≠ .departing then
          t.origin.lines[n] = { l with state := .idle } ∧
          t.agenda = { s.agenda with
            purposes := s.agenda.purposes.filter (fun p => !offerOf (.line n) p.aim) }
        else if active = false ∧ l.state = .offered ∧
            (s.control.state = .member ∨ s.control.state = .leaving) then
          t.origin.lines[n] = l ∧ (l.handle = none → t.agenda = s.agenda) ∧
          ∀ h, l.handle = some h → t.agenda =
            s.agenda.gains (withdrawOf h) (.withdraw h n)
        else t.origin.lines[n] = l ∧ t.agenda = s.agenda)) ∧
  (∀ (s : State) (n : Line) (level : Bool), s.origin.levels.getLsbD n.val ≠ level →
      (s.origin.lines[n].mode = .edgeRise ∨ s.origin.lines[n].mode = .edgeFall) →
      let l := s.origin.lines[n]
      let edge := (l.mode == .edgeRise) == level
      ∃ t, exec (.eventLineChange n level) s = .next t ∧
        t = ((s.setAgenda t.agenda).setOrigin t.origin).setBus (s.bus.requestAs t.bus) ∧
        t.origin = { s.origin with levels := t.origin.levels, lines := t.origin.lines } ∧
        (∀ m : Line, t.origin.levels.getLsbD m.val = if m = n then level else s.origin.levels.getLsbD m.val) ∧
        (∀ m : Line, m ≠ n → t.origin.lines[m] = s.origin.lines[m]) ∧
        (if edge = true ∧ l.state = .idle ∧ s.control.state = .member then
          t.origin.lines[n] = { l with state := .want } ∧
          t.agenda = s.agenda.gains (offerOf (.line n)) (.offer (.line n) l.priority)
        else t.agenda = s.agenda ∧
          t.origin.lines[n] =
            if edge = true ∧ (l.state = .want ∨ l.state = .offered ∨ l.state = .served) then
              { l with memo := true }
            else l)) ∧
  (∀ (s : State) (n : Line), lineActive s n = true ↔
    s.origin.lines[n].mode = .levelHigh ∧ s.origin.levels.getLsbD n.val = true ∨
      s.origin.lines[n].mode = .levelLow ∧ s.origin.levels.getLsbD n.val = false)

/-- R41, R84, R92, R94, R113: the expiries that only move the agenda. The idle timer adds a BEACON in
SYNCING, MEMBER and LEAVING and nothing elsewhere; the DEPARTING wait adds the departure NULL; either is
absorbed by one that is held. A set-aside timer makes its purpose free to be sent again, with age and count
as they were. -/
def Obligations.AgendaTimerExpiries : Prop :=
  ∀ s : State,
    (s.agenda.idle.isSome → ∃ t, exec .idleTimerExpiry s = .next t ∧
      t = (s.setAgenda t.agenda).setBus (s.bus.requestAs t.bus) ∧
      t.agenda = { (if s.judging then s.agenda.gains (· == .beacon) .beacon else s.agenda) with idle := none }) ∧
    (s.control.wait.isSome → s.control.state = .departing →
      ∃ t, exec .departingWaitExpiry s = .next t ∧
        t = ((s.setAgenda t.agenda).setControl { s.control with wait := none }).setBus (s.bus.requestAs t.bus) ∧
        t.agenda = s.agenda.gains (· == .departureNull) .departureNull) ∧
    (∀ p ∈ s.agenda.purposes, p.setAside.isSome → AgendaSound s →
      ∃ t, exec (.setAsideTimerExpiry p.age) s = .next t ∧
        t = (s.setAgenda { s.agenda with purposes := s.agenda.purposes.map (fun q =>
              if q = p then { p with setAside := none } else q) }).setBus (s.bus.requestAs t.bus))

/-- R97, R99, R100, R103, R105: the expiries that move the station, each of which completes while its timer
runs. The quiet timer leads to FOUNDING with a FOUND purpose and nothing else in the agenda; the join-reply
timer to LISTEN with an empty agenda, an admission note and JOIN_TIMEOUT; the backoff timer in LISTEN to
JOINING with a JOIN purpose when a readable head was noted, otherwise to the quiet timer, and after a
DEFERRED to a JOIN purpose. That the note of a head is cleared with each of these is the model's reading
(log entry 20). -/
def Obligations.MembershipTimerExpiries : Prop :=
  ∀ s : State, PlaceSound s →
    let only := fun a : Aim => ({ s.agenda with
      purposes := [{ aim := a, age := s.agenda.nextAge, count := 0, setAside := none }]
      nextAge := s.agenda.nextAge + 1 } : Agenda)
    (s.control.quiet.isSome → ∃ t, exec .quietTimerExpiry s = .next t ∧
      t.control = { s.control with state := .founding, quiet := none, headNoted := false,
                                   foreign := false, note := none } ∧
      t.agenda = only .found ∧ t.port.stateCause = true ∧
      t.bus = s.bus.requestAs t.bus ∧
      t.record = s.record ∧ t.origin = s.origin ∧ t.claim = s.claim ∧ t.port.faults = s.port.faults) ∧
    (s.control.joinReply.isSome → ∃ t, exec .joinReplyTimerExpiry s = .next t ∧
      t.control = { s.control with
        state := .listen, joinReply := none, note := some 0
        quiet := if s.control.backoff = none then some (s.port.store.tq * 1000) else none } ∧
      t.agenda = { s.agenda with purposes := [] } ∧ t.record = s.record ∧ t.origin = s.origin ∧
      t.claim = s.claim ∧ t.bus.pointer = 0 ∧ t.bus.learned = false ∧
      t.port.stateCause = true ∧
      (if s.port.faults.length < 8 then
        t.port.faults = s.port.faults ++ [{
          kind := .joinTimeout, stamp := s.port.clock, station := none, slot := none, line := none,
          seq := none, cause := none }] ∧
        t.port.overflow = s.port.overflow
      else t.port.faults = s.port.faults ∧ t.port.overflow = true)) ∧
    (∀ (b : Nat) (f : FollowOn), s.control.backoff = some (b, f) →
      ∃ t, exec .backoffTimerExpiry s = .next t ∧
        (s.control.state = .listen → s.control.headNoted = true →
          t.control = { s.control with state := .joining, backoff := none, headNoted := false,
                                       quiet := none, note := none } ∧
          t.agenda = only .join ∧ t.port.stateCause = true) ∧
        (s.control.state = .listen → s.control.headNoted = false →
          t = (s.setControl { s.control with
                backoff := none, quiet := some (s.port.store.tq * 1000) }).setBus (s.bus.requestAs t.bus)) ∧
        (s.control.state = .joining → f = .sendJoin →
          t.agenda = s.agenda.gains (fun a => a == .join || a == .found) .join ∧
          t.control = { s.control with backoff := none, headNoted := false }) ∧
        t.control.backoff = none ∧ t.record = s.record ∧ t.origin = s.origin ∧ t.claim = s.claim)

/-- R84, R125: the expiry of a record's service timer stops it and adds one REVOKE purpose with the
record's handle, its own number or id, and the claimant the copy shows at that moment; a REVOKE held for
the handle absorbs the add. That the claimant a held REVOKE was timed against stays then is the model's
reading (log entry 31). -/
def Obligations.ServiceTimerAddsRevoke : Prop :=
  ∀ (s : State) (r : Record) (h : Handle) (e : Entry) (c : Station),
    s.control.state = .member ∨ s.control.state = .leaving → s.record = some r → r.Ordered →
    e ∈ r.entries → e.slot = h.slot → e.tag = h.tag → e.claimant = some c →
    (∀ n : Line, s.origin.lines[n].handle = some h → s.origin.lines[n].timer.isSome →
      ∃ t, exec (.serviceTimerExpiry (.line n)) s = .next t ∧
        t = ((s.setAgenda t.agenda).setOrigin t.origin).setBus (s.bus.requestAs t.bus) ∧
        t.origin = { s.origin with lines := t.origin.lines } ∧
        (∀ m : Line, t.origin.lines[m] =
          if m = n then { s.origin.lines[n] with timer := none } else s.origin.lines[m]) ∧
        t.agenda = s.agenda.gains (revokeOf h) (.revoke h c (.line n))) ∧
    (∀ x ∈ s.origin.raises, AccountsSound s → x.handle = some h → x.timer.isSome →
      ∃ t, exec (.serviceTimerExpiry (.raise x.id)) s = .next t ∧
        t = ((s.setAgenda t.agenda).setOrigin { s.origin with raises := s.origin.raises.map (fun y =>
              if y = x then { x with timer := none } else y) }).setBus (s.bus.requestAs t.bus) ∧
        t.agenda = s.agenda.gains (revokeOf h) (.revoke h c (.raise x.id)))

/-! ### The share bus -/

/-- R24, R25, R26, R27: observing starts when the bus is found at rest; an arbitration opens when a request
line is driven; at its close the winner is the first station of the sampled vector counting upward from the
pointer. This station's own line is sampled as it stands, or with either outcome where it has changed since
the opening, which is noted while the arbitration is open. The winner with its line driven at the sampling is
granted, releases its line and becomes the sender; every other station becomes a receiver; an empty vector
yields no attempt. That the close needs no opening seen, and that sampling and grant are one step, are the
model's reading (log entry 21). -/
def Obligations.ArbitrationGrantsFirstFromPointer : Prop :=
  (∀ (s : State) (others : StationSet) (found : Bool), s.bus.attempt = none →
    (s.bus.awaitRest = true → ∃ t, exec .busAtRest s = .next t ∧
      t = s.setBus { s.bus with awaitRest := false, observing := true, request := wantsBus s
                                requestChanged := t.bus.requestChanged }) ∧
    (s.bus.observing = true → s.bus.awaitRest = false →
      let opens := if s.bus.request then others ||| (1#16 <<< s.number.val) else others
      let own := if s.bus.requestChanged then found else s.bus.request
      let v := if own then others ||| (1#16 <<< s.number.val) else others
      let close := Instr.arbitrationClose ⟨others, found⟩
      (opens ≠ 0 → s.bus.arbitrating = false → exec (.arbitrationOpen others) s =
        .next (s.setBus { s.bus with arbitrating := true, requestChanged := false })) ∧
      (v = 0 → ∃ t, exec close s = .next t ∧
        t = s.setBus { s.bus.requestAs t.bus with arbitrating := false }) ∧
      (∀ w : Station, v.getLsbD w.val = true →
        (∀ x : Station, v.getLsbD x.val = true → (w - s.bus.pointer).val ≤ (x - s.bus.pointer).val) →
        (¬(w = s.number ∧ own = true) → ∃ t, exec close s = .next t ∧
          t = s.setBus { s.bus.requestAs t.bus with
            arbitrating := false
            attempt := some {
              vector := v, winner := w, winnerLearned := s.bus.learned, requested := own,
              stateAtClose := s.control.state, driven := none, framed := false, words := [],
              crc := 0xFFFF, readback := none, answer := none, responses := [], discard := false } }) ∧
        (w = s.number → own = true → ∃ t f, exec close s = .next t ∧
          t.bus = { s.bus with
            arbitrating := false, request := false, requestChanged := false
            attempt := some {
              vector := v, winner := w, winnerLearned := s.bus.learned, requested := true,
              stateAtClose := s.control.state, driven := some f, framed := false, words := [],
              crc := 0xFFFF, readback := none, answer := none, responses := [], discard := false } } ∧
          f.sender = s.number ∧ drivenWords t = encodeFrame f ∧
          t.record = s.record ∧ t.claim = s.claim ∧ t.origin = s.origin)))) ∧
  (∀ (c : Instr) (s t : State), s.bus.attempt = none → s.bus.arbitrating = true → exec c s = .next t →
    t.bus.arbitrating = true → s.bus.requestChanged = true ∨ t.bus.request ≠ s.bus.request →
      t.bus.requestChanged = true)

/-- R86: purposes rank by kind as the table gives, within a kind by age, older first, except that of two
OFFERs the one of higher offer priority goes first. The departure NULL, which has no rank, is left out. -/
def Obligations.PurposesRankByKindThenAge : Prop :=
  ∀ (h₁ h₂ h₃ : Handle) (c : Station) (z₁ z₂ : Source) (n : Line) (prio : Priority),
    ([[.duty], [.leave], [.done h₁], [.revoke h₂ c z₁], [.withdraw h₃ n], [.claim], [.offer z₂ prio],
      [.join, .found], [.beacon]] : List (List Aim)).Pairwise (fun earlier later =>
        ∀ a ∈ earlier, ∀ b ∈ later, ∀ (age₁ age₂ count₁ count₂ : Nat) (set₁ set₂ : Timer),
          goesBefore ⟨a, age₁, count₁, set₁⟩ ⟨b, age₂, count₂, set₂⟩ = true ∧
          goesBefore ⟨b, age₂, count₂, set₂⟩ ⟨a, age₁, count₁, set₁⟩ = false) ∧
    (∀ (age₁ age₂ count₁ count₂ : Nat) (set₁ set₂ : Timer),
      (∀ a b : Aim, (∃ g g', a = .done g ∧ b = .done g') ∨
          (∃ g g' d d' z z', a = .revoke g d z ∧ b = .revoke g' d' z') ∨
          (∃ g g' m m', a = .withdraw g m ∧ b = .withdraw g' m') →
        goesBefore ⟨a, age₁, count₁, set₁⟩ ⟨b, age₂, count₂, set₂⟩ = decide (age₁ < age₂)) ∧
      (∀ (x y : Source) (p q : Priority),
        goesBefore ⟨.offer x p, age₁, count₁, set₁⟩ ⟨.offer y q, age₂, count₂, set₂⟩ =
          decide (q < p ∨ p = q ∧ age₁ < age₂)))

/-- R30, R89, R90: at its grant a station builds the first purpose, in the order of R86, that is sendable
and valid; the sendable purposes before it that are not valid lapse, and nothing else leaves the agenda;
with none left it builds NULL. The head carries its number and its copy's sequence and member set, or 0
and the empty set without a copy. This holds too where the request line was sampled driven and the agenda has
stopped wanting the bus since (R26, R148). At a grant in FOUNDING with the foreign-attempt flag set, the FOUND
is replaced by a JOIN of count 0, the station enters JOINING, and that JOIN is built at this grant (R101); the
join-reply timer does not run until the JOIN is judged taken (R103).
That sampling and grant are one step, so that what comes between them comes before it, is the model's reading
(log entry 21). -/
def Obligations.GrantBuildsFirstValidPurpose : Prop :=
  ∀ (s : State) (others : StationSet) (found : Bool), s.bus.attempt = none →
    s.bus.observing = true → s.bus.awaitRest = false →
    (if s.bus.requestChanged then found else s.bus.request) = true →
    (∀ x : Station, others.getLsbD x.val = true →
      (s.number - s.bus.pointer).val ≤ (x - s.bus.pointer).val) →
    (AgendaSound s → ¬(s.control.state = .founding ∧ s.control.foreign = true) →
    ∃ (t : State) (a : Attempt) (f : Frame), exec (.arbitrationClose ⟨others, found⟩) s = .next t ∧
      t.bus.attempt = some a ∧ a.driven = some f ∧ f.sender = s.number ∧
      (∀ r, s.record = some r → f.seq = r.seq ∧ f.members = r.members) ∧
      (s.record = none → f.seq = 0 ∧ f.members = 0) ∧
      (∀ p ∈ s.agenda.purposes, sendable s p = true → validNow s p = true →
        (∀ q ∈ s.agenda.purposes, q ≠ p → sendable s q = true → validNow s q = true →
          goesBefore p q = true) →
        aimBody s p.aim = some f.body ∧ t.agenda.sent.map Sent.purpose = some p ∧
        ∀ q ∈ s.agenda.purposes, q ∉ t.agenda.purposes ↔
          sendable s q = true ∧ validNow s q = false ∧ goesBefore q p = true) ∧
      ((∀ p ∈ s.agenda.purposes, ¬(sendable s p = true ∧ validNow s p = true)) →
        f.body = .null ∧ t.agenda.sent = none ∧
        ∀ q ∈ s.agenda.purposes, q ∉ t.agenda.purposes ↔ sendable s q = true)) ∧
    (PlaceSound s → s.control.state = .founding → s.control.foreign = true →
      let join : Purpose := { aim := .join, age := s.agenda.nextAge, count := 0, setAside := none }
      let c := s.port.store
      ∃ (t : State) (a : Attempt), exec (.arbitrationClose ⟨others, found⟩) s = .next t ∧
        t.control = { s.control with state := .joining, joinReply := none, note := none } ∧
        t.agenda = { s.agenda with
          purposes := [join], nextAge := s.agenda.nextAge + 1, sent := some ⟨join, none⟩ } ∧
        t.bus.attempt = some a ∧ a.driven = some {
          sender := s.number, seq := 0, members := 0, body := .join ⟨c.q, c.e, c.l, c.v, c.ti⟩ } ∧
        t.port = { s.port with stateCause := true } ∧ t.record = none ∧ t.origin = s.origin ∧
        t.claim = s.claim)

/-- R13, R87, R88, R89, R90, R106, R107: a purpose is sendable when its set-aside is absent and its kind's
condition holds, and valid when a body can be built from it; the agenda reports that it wants the bus exactly
while it holds a sendable purpose. And what each kind of purpose needs to be sendable and valid, and the body
built from it. The respondent duty, LEAVE, JOIN, FOUND, BEACON and departure NULL are always sendable. The
duty is valid at the respondent and is the REPLY for the oldest waiting pair, or that for the joiner, or the
ENTRY at the cursor, or the CLOSE. An OFFER takes the lowest free slot, the priority of its purpose, and its
source's code, target set and payload; DONE, REVOKE and WITHDRAW need the entry of their handle as R89 gives;
no freeze may stand for the five. (The CLAIM is selected as ClaimSelectsHighestThenOldest says.) -/
def Obligations.PurposesAreBuiltAsTheirKindsGive : Prop :=
  (∀ s : State, let c := s.port.store
    (∀ p : Purpose, (sendable s p = true ↔ p.setAside = none ∧ aimSendable s p.aim = true) ∧
      (validNow s p = true ↔ ∃ b, aimBody s p.aim = some b)) ∧
    (wantsBus s = true ↔ ∃ p ∈ s.agenda.purposes, sendable s p = true) ∧
    (∀ which : Aim → Bool, holdsAim which s = true ↔ ∃ p ∈ s.agenda.purposes, which p.aim = true) ∧
    (∀ a ∈ [Aim.duty, .leave, .join, .found, .beacon, .departureNull], aimSendable s a = true) ∧
    (aimBody s .leave = if s.control.state = .leaving then some .leave else none) ∧
    aimBody s .beacon = some .beacon ∧ aimBody s .departureNull = some .null ∧
    aimBody s .join = some (.join ⟨c.q, c.e, c.l, c.v, c.ti⟩) ∧
    aimBody s .found = some (.found ⟨c.q, c.e, c.l, c.v, c.ti⟩)) ∧
  (∀ (s : State) (r : Record), s.record = some r → r.Ordered →
    let frozen := ∃ j, r.join = some j ∧ j.verdict = .admitted
    let own := (r.entries.filter (fun e => e.origin == s.number && !e.orphan)).length
    ((∀ j, r.join = some j → j.respondent ≠ s.number) → aimBody s .duty = none) ∧
    (∀ j, r.join = some j → j.respondent = s.number →
      let reply := fun (v : Verdict) (n : Station) =>
        some (Body.reply v n (if v = .admitted then r.entries.length else 0) r.miss r.params)
      (∀ w rest, j.waiting = w :: rest → aimBody s .duty = reply w.2 w.1) ∧
      (j.waiting = [] → j.phase = .replyDue → aimBody s .duty = reply j.verdict j.joiner) ∧
      (j.waiting = [] → j.phase = .sending → ∀ before after e, r.entries = before ++ e :: after →
        j.cursor = before.length → j.cursor < j.expected →
        aimBody s .duty = some (.entry j.cursor e)) ∧
      (j.waiting = [] → j.phase = .sending → j.cursor = j.expected →
        aimBody s .duty = some (.close j.expected))) ∧
    (∀ h : Handle,
      (aimSendable s (.done h) = true ↔ ¬ frozen) ∧
      (aimBody s (.done h) =
        if ∃ e ∈ r.entries, e.slot = h.slot ∧ e.tag = h.tag ∧ e.claimant = some s.number then
          some (.done h) else none)) ∧
    (∀ (h : Handle) (c : Station) (z : Source),
      (aimSendable s (.revoke h c z) = true ↔ ¬ frozen) ∧
      (aimBody s (.revoke h c z) =
        if ∃ e ∈ r.entries, e.slot = h.slot ∧ e.tag = h.tag ∧ e.claimant = some c then
          some (.revoke h) else none)) ∧
    (∀ (h : Handle) (n : Line),
      (aimSendable s (.withdraw h n) = true ↔ ¬ frozen) ∧
      (aimBody s (.withdraw h n) =
        if lineActive s n = false ∧
            ∃ e ∈ r.entries, e.slot = h.slot ∧ e.tag = h.tag ∧ e.claimant = none then
          some (.withdraw h) else none)) ∧
    (∀ (z : Source) (prio : Priority),
      (aimSendable s (.offer z prio) = true ↔
        ¬ frozen ∧ own < r.params.q ∧ ∃ k : Slot, ∀ e ∈ r.entries, e.slot ≠ k)) ∧
    (∀ (n : Line) (prio : Priority) (k : Slot), (∀ e ∈ r.entries, e.slot ≠ k) →
      (∀ m : Slot, m < k → ∃ e ∈ r.entries, e.slot = m) →
      aimBody s (.offer (.line n) prio) =
        some (.offer k s.origin.lines[n].code prio s.origin.lines[n].targets none) ∧
      (∀ x ∈ s.origin.raises, AccountsSound s →
        aimBody s (.offer (.raise x.id) prio) = some (.offer k x.code prio x.targets (some x.payload)))))

/-- R136, R137, R139: which codes hit, which entries are candidates, when the claim unit wants to claim
and which are eligible; and that it selects the eligible entry of highest priority, the earliest in the
order list among equals, and the CLAIM carries its slot and tag; or nothing, in which case no CLAIM can
be built. -/
def Obligations.ClaimSelectsHighestThenOldest : Prop :=
  ∀ (s : State) (r : Record), s.record = some r →
    let hits := fun c : Code => (∃ i : Fin 4, s.claim.filters[i].enabled = true ∧
        c &&& s.claim.filters[i].mask = s.claim.filters[i].base &&& s.claim.filters[i].mask) ∨
      ∀ i : Fin 4, s.claim.filters[i].enabled = false
    let candidate := fun e : Entry => e.claimant = none ∧ e.targets.getLsbD s.number.val = true ∧ hits e.code
    let wants := s.control.state = .member ∧ s.claim.paused = false ∧
      s.claim.grants.length < s.port.store.d ∧ ∃ e ∈ r.entries, candidate e
    let frozen := ∃ j, r.join = some j ∧ j.verdict = .admitted
    (wantsToClaim s = true ↔ wants) ∧
    (∀ (before after : List Entry) (e : Entry), r.entries = before ++ e :: after → candidate e →
      wants → ¬ frozen → (∀ x ∈ before, candidate x → x.priority < e.priority) →
      (∀ x ∈ after, candidate x → x.priority ≤ e.priority) →
      selectEntry s = some e ∧ aimBody s .claim = some (.claim ⟨e.slot, e.tag⟩) ∧
        aimSendable s .claim = true) ∧
    (¬ wants ∨ frozen → selectEntry s = none ∧ aimBody s .claim = none ∧ aimSendable s .claim = false)

/-- R31, R33, R35, R47, R171: at the end of the frame a station that was SYNCING, MEMBER or LEAVING at the close
answers by the first test that fails: check, head, content; keeps the reason; and from then on drives the code
and the inverted copy of its answer in its own field. The sequence and member set of FOUND and JOIN are not
compared. -/
def Obligations.MemberAnswersByFirstFailingTest : Prop :=
  ∀ (s : State) (a : Attempt) (r : Record) (words : List Word16),
    s.bus.attempt = some a → a.framed = false → a.driven = none → s.record = some r →
    a.stateAtClose = .syncing ∨ a.stateAtClose = .member ∨ a.stateAtClose = .leaving →
    ∃ (answer : Answer) (t : State), exec (.frameEnd words) s = .next t ∧
      t = s.setBus { s.bus with attempt := some { a with
        framed := true, words := words, crc := checkWord words.dropLast, answer := some answer } } ∧
      drivenField t = answer.driven ∧
      (decodeFrame words = none → answer = .refuse .check) ∧
      (∀ f, decodeFrame words = some f →
        let compared := (∀ p, f.body ≠ .found p) ∧ ∀ p, f.body ≠ .join p
        let headOk := f.sender = a.winner ∧ (compared → f.seq = r.seq ∧ f.members = r.members)
        (¬ headOk → answer = .refuse .head) ∧
        (headOk → contentOk s.number f.sender r f.body = false → answer = .refuse .content) ∧
        (headOk → contentOk s.number f.sender r f.body = true → answer = .ack))

/-- R29, R31, R32, R36, R37, R38, R170: the answers of a station that was DEPARTING or held no record at the
close, and of the sender, by its readback; and the check word register at the end of the frame, run over the
words read at a receiver and over the words driven at the sender. Each drives in its own field of the response
window nothing before the end of the frame or without an attempt, and then the code and the inverted copy of its
answer (R33, R171). That the state at the close decides whatever state follows within the attempt is the
model's reading (log entry 10). -/
def Obligations.OtherStationsAnswerByState : Prop :=
  (∀ s : State, (∀ a, s.bus.attempt = some a → a.framed = false) → drivenField s = 0) ∧
  ∀ (s : State) (a : Attempt) (words : List Word16), s.bus.attempt = some a → a.framed = false →
    ∃ (answer : Answer) (readback : Option Bool) (crc : Word16) (t : State),
      exec (.frameEnd words) s = .next t ∧
      t = s.setBus { s.bus with attempt := some { a with
        framed := true, words := words, crc := crc, readback := readback, answer := some answer } } ∧
      drivenField t = answer.driven ∧
      (a.driven = none → readback = a.readback ∧ crc = checkWord words.dropLast ∧
        (a.stateAtClose = .departing → answer = .abstain) ∧
        (a.stateAtClose = .joining →
          answer = if (decodeFrame words).isSome then .ack else .refuse .check) ∧
        (a.stateAtClose = .listen ∨ a.stateAtClose = .founding ∨ a.stateAtClose = .offline ∨
          a.stateAtClose = .isolated → answer = .silent)) ∧
      (∀ f, a.driven = some f → readback = some (decide (words = encodeFrame f)) ∧
        encodeFrame f = (encodeFrame f).dropLast ++ [crc] ∧
        answer = if a.stateAtClose = .departing then .abstain
          else if words = encodeFrame f then .ack else .refuse .check)

/-- R33, R34, R171: where each station's field lies in the four response words, how a field is read, that
a field in a word that was not strobed reads as REFUSE, and that what a station drives is read by every
station as that answer. A field of code 00 with inverted part 11 is left out here: that it reads as REFUSE
is the model's reading (log entry 6). -/
def Obligations.ResponseFieldsReadAsDriven : Prop :=
  (∀ (w : Vector Word16 4) (strobed : Nat) (n : Station),
    let x := w[n.val / 4]'(by omega)
    let code := x.extractLsb' (14 - 4 * (n.val % 4)) 2
    let copy := x.extractLsb' (12 - 4 * (n.val % 4)) 2
    let read := (windowFields (w.toList.take strobed))[n]
    (strobed ≤ n.val / 4 → read = .refuse) ∧
    (n.val / 4 < strobed →
      (code = 0 ∧ copy = 0 → read = .silent) ∧ (code = 1 ∧ copy = 2 → read = .ack) ∧
      (code = 2 ∧ copy = 1 → read = .refuse) ∧ (code = 3 ∧ copy = 0 → read = .abstain) ∧
      (copy ≠ ~~~code → ¬(code = 0 ∧ copy = 0) → read = .refuse))) ∧
  (∀ (answers : Vector Answer 16) (n : Station),
    let d := fun m : Station => answers[m].driven
    (windowFields [d 0 ++ d 1 ++ d 2 ++ d 3, d 4 ++ d 5 ++ d 6 ++ d 7, d 8 ++ d 9 ++ d 10 ++ d 11,
        d 12 ++ d 13 ++ d 14 ++ d 15])[n] =
      match answers[n] with
      | .silent => .silent
      | .ack => .ack
      | .refuse _ => .refuse
      | .abstain => .abstain)

/-- R23, R24, R28, R39, R40, R41: the end of every observed attempt, complete or broken, sets the pointer:
past the winner worked out where it was learned; from a readable head where it was not; and unchanged
otherwise; except that a station that enters LISTEN has it 0 and unlearned. The record of the attempt is
discarded and the idle timer runs anew, unless the station has stopped observing. An attempt during which a
LEAVE took the station OFFLINE ends with its record discarded and nothing handed on, and observing stops and
the idle timer with it (R94). A station that holds a record posts DUPLICATE_SEEN when its own number was
seen, and only then. That a pointer which became unlearned during the attempt counts as unlearned before it
(log entry 29), and that DUPLICATE_SEEN is the last fault of the attempt, for a record still held then (log
entry 12), are the model's reading and choice. -/
def Obligations.AttemptEndSetsThePointer : Prop :=
  (∀ (s : State) (a : Attempt) (c : Instr), s.bus.attempt = some a → a.discard = false → ¬ s.off →
    endsAttempt a c →
    ∃ t, exec c s = .next t ∧ t.bus.attempt = none ∧
      (t.control.state = .listen → s.control.state ≠ .listen →
        t.bus.pointer = 0 ∧ t.bus.learned = false) ∧
      (t.control.state ≠ .listen ∨ s.control.state = .listen →
        (s.bus.learned = true → t.bus.pointer = a.winner + 1 ∧ t.bus.learned = true) ∧
        (s.bus.learned = false → ∀ f, headOf a = some f →
          t.bus.pointer = f.sender + 1 ∧ t.bus.learned = true) ∧
        (s.bus.learned = false → headOf a = none →
          t.bus.pointer = s.bus.pointer ∧ t.bus.learned = false)) ∧
      (¬ t.off → t.agenda.idle = some (s.port.store.ti * 250)) ∧
      (t.off → t.agenda.idle = none ∧ t.bus.observing = false)) ∧
  (∀ (s : State) (a : Attempt) (c : Instr), s.bus.attempt = some a → a.discard = true → endsAttempt a c →
    exec c s = .next ((s.setBus { s.bus with attempt := none, observing := false, request := false }).setAgenda
      { s.agenda with sent := none, idle := none })) ∧
  (∀ (s : State) (a : Attempt) (c : Instr), EndsWith s a c →
    let seen := a.winnerLearned = true ∧ a.winner = s.number ∧ a.requested = false ∨
      a.driven = none ∧ ∃ f, headOf a = some f ∧ f.sender = s.number
    ∃ t, exec c s = .next t ∧
      (seen → ∀ r, t.record = some r →
        (∃ earlier, t.port.faults = earlier ++ [{
          kind := .duplicateSeen, stamp := s.port.clock, station := some s.number, slot := none,
          line := none, seq := some r.seq, cause := none }]) ∨
        8 ≤ t.port.faults.length ∧ t.port.overflow = true) ∧
      (¬ seen ∨ t.record = none →
        ∀ x ∈ t.port.faults, x.kind = .duplicateSeen → x ∈ s.port.faults))

/-- R1, R34, R40, R44, R45, R56, R60, R162, R163: a station in SYNCING, MEMBER or LEAVING judges each attempt
it observed, from its winner, its frame, the fields as read and its own refusal, if the word of its field was
strobed; it holds the judged copy from then on, or none when it has departed. It posts one MEMBER_DEPARTED for
each other station that departed, in the report's order, with number and cause; then the faults about its own
place, then those about its entries and purposes; what the full queue does not hold is dropped with the
overflow flag set. That the sender's frame is the one it built, whatever its readback (log entry 7), that the
winner worked out is the sender (log entry 9), that LEFT outside LEAVING is an eviction (log entry 13), and
that DUPLICATE_SEEN follows the judgement's faults (log entry 12), are the model's reading and choice. -/
def Obligations.AttemptEndJudgesTheCopy : Prop :=
  (∀ (s : State) (a : Attempt) (c : Instr) (r : Record), s.bus.attempt = some a → a.discard = false →
    endsAttempt a c → s.judging → s.record = some r →
    let j := judge s.number
      { winner := a.winner, isSender := a.driven.isSome, frame := frameOf a,
        fields := windowFields (responsesOf a c)
        refusal := match a.answer with
          | some (.refuse why) =>
            if s.number.val / 4 < (responsesOf a c).length then some why else none
          | _ => none } r
    ∃ t, exec c s = .next t ∧
      (j.own = none → t.record = some j.record) ∧
      (j.own ≠ none → t.record = none ∧
        t.control.state = if s.control.state = .leaving then .offline else .listen)) ∧
  (∀ (s : State) (a : Attempt) (c : Instr) (r : Record), EndsWith s a c → s.judging →
    s.record = some r → s.port.faults.length ≤ 8 →
    let j := judgementOf s a c r
    let departed := (j.departures.filter (fun d => d.1 != s.number)).map (fun d => ({
      kind := .memberDeparted, stamp := s.port.clock, station := some d.1, slot := none, line := none,
      seq := some j.record.seq, cause := some d.2 } : FaultRecord))
    ∃ t place entries last, exec c s = .next t ∧
      t.port.faults = (s.port.faults ++ departed ++ place ++ entries ++ last).take 8 ∧
      t.port.overflow = (s.port.overflow ||
        decide (8 < (s.port.faults ++ departed ++ place ++ entries ++ last).length)) ∧
      (∀ x ∈ place, x.kind = .evicted ∨ x.kind = .desync ∨ x.kind = .joinTimeout) ∧
      (∀ x ∈ entries, x.kind = .serviceFailed ∨ x.kind = .retryLimit) ∧
      (∀ x ∈ last, x.kind = .duplicateSeen))

/-- R29, R30, R169, R170: the words of a frame whose fields lie in the ranges their layouts hold are those of
R169, kind by kind, with the check word of R170 last; their number is the one R169 gives; and they read back
as the same frame. -/
def Obligations.FramesReadBackFromTheirWords : Prop :=
  ∀ f : Frame, f.Encodable →
    encodeFrame f = f.layout ++ [checkWord f.layout] ∧
    decodeFrame (encodeFrame f) = some f ∧
    (encodeFrame f).length = 4 + bodyLength f.body.layout.1 f.body.layout.2.2.1.isSome

/-- R31, R169, R170: the check word is the CRC of R170 over the words' bits, most significant first, from
0xFFFF; a frame is good exactly when it has at least four words, a kind that exists, the length of that kind
and payload flag, and the check word of the words before it; its fields are then those that stand in the head
words and the body words where R169 has them, kind by kind. -/
def Obligations.FrameIsGoodByKindLengthAndCheck : Prop :=
  ∀ ws : List Word16,
    (let shifted := fun (c : Word16) (data : Bool) =>
      if c.getLsbD 15 ≠ data then (c <<< 1) ^^^ 0x1021#16 else c <<< 1
     let bits := fun w : Word16 => (List.finRange 16).map (fun i => w.getLsbD (15 - i.val))
     checkWord ws = (ws.flatMap bits).foldl shifted 0xFFFF#16) ∧
    ((decodeFrame ws).isSome ↔ ∃ h0 h1 h2 c rest, ws = h0 :: h1 :: h2 :: rest ++ [c] ∧
      (h0.extractLsb' 12 4).toNat ≤ 12 ∧
      rest.length = bodyLength (h0.extractLsb' 12 4).toNat (h0.getLsbD 2) ∧
      c = checkWord (h0 :: h1 :: h2 :: rest)) ∧
    (∀ f, decodeFrame ws = some f → f.StandsIn ws)

/-! ### The judgement -/

/-- R5, R46, R48, R49, R50, R59: the attempt takes exactly when some member remains after the abstentions and
every member's field reads ACK or ABSTAIN; then the sequence rises by one and every count is 0. Otherwise
the sequence does not change, and an attempt that fails without a departure changes nothing in the copy but
miss counts. That the sequence rises at a station without the frame too is the model's reading (log
entry 8). -/
def Obligations.AttemptTakesWhenEveryMemberAcks : Prop :=
  ∀ (me : Station) (x : Seen) (r : Record), let j := judge me x r
    (j.took = true ↔ (∃ n : Station, r.members.getLsbD n.val = true ∧ x.fields[n] ≠ .abstain) ∧
      ∀ n : Station, r.members.getLsbD n.val = true → x.fields[n] = .ack ∨ x.fields[n] = .abstain) ∧
    (j.took = true → j.record.seq = r.seq + 1 ∧ ∀ n : Station, j.record.miss[n] = 0) ∧
    (j.took = false → j.record.seq = r.seq) ∧
    (j.took = false → j.departures = [] → j.changes = [] ∧
      j.record = { r with miss := j.record.miss })

/-- R46: the fields of stations outside the member set have no effect on a judgement. -/
def Obligations.NonMembersFieldsDoNotCount : Prop :=
  ∀ (me : Station) (x : Seen) (fields : Vector Response 16) (r : Record),
    (∀ n : Station, r.members.getLsbD n.val = true → fields[n] = x.fields[n]) →
    judge me { x with fields := fields } r = judge me x r

/-- R48, R78, R83: every member whose field reads ABSTAIN departs whatever follows, before every other
departure, in ascending station number, and is no member after the judgement. -/
def Obligations.AbstainersDepartFirst : Prop :=
  ∀ (me : Station) (x : Seen) (r : Record),
    let abstained := (List.finRange 16).filter
      (fun n => r.members.getLsbD n.val && decide (x.fields[n] = .abstain))
    (∃ later, (judge me x r).departures = abstained.map (fun n => (n, .abstained)) ++ later ∧
      ∀ d ∈ later, d.2 ≠ .abstained) ∧
    (∀ n ∈ abstained, (judge me x r).record.members.getLsbD n.val = false)

/-- R4, R53, R54, R55, R56: in a failed attempt the sender is blamed when at least half of the others
refused; each member that stays has its count changed once by its answer; a member is evicted exactly
when its count reaches E, so that every count is below E at the end of every attempt. -/
def Obligations.BlameChargesAndEvictions : Prop :=
  ∀ (me : Station) (x : Seen) (r : Record), let j := judge me x r
    let judging := fun n : Station => r.members.getLsbD n.val = true ∧ x.fields[n] ≠ .abstain
    let others := (List.finRange 16).filter (fun n => decide (judging n) && n != x.winner)
    let refused := others.filter (fun n => decide (x.fields[n] = .refuse))
    let blame := others ≠ [] ∧ others.length ≤ 2 * refused.length
    let counted := fun n : Station =>
      if n = x.winner then
        if ¬ blame ∧ x.fields[n] = .ack then 0 else r.miss[n] + 1
      else if x.fields[n] = .ack then 0
      else if x.fields[n] = .refuse ∧ blame then r.miss[n]
      else r.miss[n] + 1
    (j.took = false → ∀ n : Station, judging n →
      (j.record.members.getLsbD n.val = true ↔ counted n < r.params.e) ∧
      (j.record.members.getLsbD n.val = true → j.record.miss[n] = counted n) ∧
      (j.record.members.getLsbD n.val = false → (n, DepartureCause.evicted) ∈ j.departures)) ∧
    (0 < r.params.e → ∀ n : Station, j.record.members.getLsbD n.val = true → j.record.miss[n] < r.params.e)

/-- R57: when a station concludes that its copy has diverged: in a failed attempt it did not send, it
refused for the head or the content, the sender was not blamed and it has not departed; or it refused the
head, judges alone, and the sender is outside its member set with a member set that is not empty. -/
def Obligations.DivergenceIsConcludedInTheMinority : Prop :=
  ∀ (me : Station) (x : Seen) (r : Record), let j := judge me x r
    let judging := fun n : Station => r.members.getLsbD n.val = true ∧ x.fields[n] ≠ .abstain
    let others := (List.finRange 16).filter (fun n => decide (judging n) && n != x.winner)
    let refused := others.filter (fun n => decide (x.fields[n] = .refuse))
    let blame := others ≠ [] ∧ others.length ≤ 2 * refused.length
    (j.diverged = true ↔ (∃ n, judging n) ∧ j.took = false ∧ x.isSender = false ∧
      j.record.members.getLsbD me.val = true ∧
      ((x.refusal = some .head ∨ x.refusal = some .content) ∧ ¬ blame ∨
       x.refusal = some .head ∧ (∀ n, judging n ↔ n = me) ∧ r.members.getLsbD x.winner.val = false ∧
        ∃ f, x.frame = some f ∧ f.members ≠ 0))

/-- R19, R62, R63, R64, R66, R68, R70, R72, R74, R75, R76, R102, R104, R107, R108, R109: the content checks a
member makes for each kind but REPLY, ENTRY and CLOSE, which are refused without a join record (with one, see
SnapshotFramesMoveTheJoinRecord). While a join record with verdict ADMITTED exists, OFFER, CLAIM, DONE,
WITHDRAW and REVOKE are refused. -/
def Obligations.ContentChecksOfMemberKinds : Prop :=
  ∀ (me n : Station) (r : Record), r.Ordered →
    let may := r.members.getLsbD n.val = true ∧ ∀ j, r.join = some j → j.verdict ≠ .admitted
    (∀ k code prio targets payload, contentOk me n r (.offer k code prio targets payload) = true ↔
      may ∧ (∀ e ∈ r.entries, e.slot ≠ k) ∧
        (r.entries.filter (fun e => e.origin == n && !e.orphan)).length < r.params.q ∧ targets ≠ 0) ∧
    (∀ h, contentOk me n r (.claim h) = true ↔ may ∧ ∃ e ∈ r.entries,
      e.slot = h.slot ∧ e.tag = h.tag ∧ e.claimant = none ∧ e.targets.getLsbD n.val = true) ∧
    (∀ h, contentOk me n r (.done h) = true ↔ may ∧ ∃ e ∈ r.entries,
      e.slot = h.slot ∧ e.tag = h.tag ∧ e.claimant = some n) ∧
    (∀ h, contentOk me n r (.withdraw h) = true ↔ may ∧ ∃ e ∈ r.entries,
      e.slot = h.slot ∧ e.tag = h.tag ∧ e.claimant = none ∧ e.origin = n) ∧
    (∀ h, contentOk me n r (.revoke h) = true ↔ may ∧ ∃ e ∈ r.entries,
      e.slot = h.slot ∧ e.tag = h.tag ∧ e.claimant ≠ none ∧ e.orphan = false ∧ e.origin = n) ∧
    (contentOk me n r .leave = true ↔ r.members.getLsbD n.val = true) ∧
    (contentOk me n r .beacon = true ↔ r.members.getLsbD n.val = true) ∧
    contentOk me n r .null = true ∧ (∀ p, contentOk me n r (.found p) = false) ∧
    (∀ p, contentOk me n r (.join p) = true) ∧
    (r.join = none → (∀ v m count miss p, contentOk me n r (.reply v m count miss p) = false) ∧
      (∀ position e, contentOk me n r (.entry position e) = false) ∧
      ∀ count, contentOk me n r (.close count) = false)

/-- R50, R65, R67, R69, R71, R73, R75, R76: what a frame that takes in an attempt without abstention does
to the copy, beside the sequence and the counts. The entries keep their order, and every entry but the
one acted on stays as it was. -/
def Obligations.TakenFramesChangeTheirEntry : Prop :=
  ∀ (me : Station) (x : Seen) (r : Record) (f : Frame), r.Ordered → r.members ≠ 0 →
    (∀ n : Station, r.members.getLsbD n.val = true → x.fields[n] = .ack) → x.frame = some f →
    let after := (judge me x r).record
    (contentOk me x.winner r f.body = false →
      after = { r with seq := r.seq + 1, miss := Vector.replicate 16 0 }) ∧
    (contentOk me x.winner r f.body = true →
      let with' := fun es : List Entry =>
        { r with seq := r.seq + 1, miss := Vector.replicate 16 0, entries := es }
      (∀ k code prio targets payload, f.body = .offer k code prio targets payload →
        after = with' (r.entries ++ [{
          slot := k, tag := f.seq, origin := x.winner, code := code, priority := prio,
          targets := targets, claimant := none, revokes := 0, orphan := false, payload := payload }])) ∧
      (∀ h, f.body = .claim h → after = with' (r.entries.map (fun e =>
        if e.slot = h.slot then { e with claimant := some x.winner } else e))) ∧
      (∀ h, f.body = .done h ∨ f.body = .withdraw h →
        after = with' (r.entries.filter (fun e => e.slot != h.slot))) ∧
      (∀ h, f.body = .revoke h → ∀ e ∈ r.entries, e.slot = h.slot →
        after = with' (if e.revokes + 1 < r.params.v then r.entries.map (fun y =>
            if y.slot = h.slot then { y with claimant := none, revokes := y.revokes + 1 } else y)
          else r.entries.filter (fun y => y.slot != h.slot))) ∧
      (f.body = .null ∨ f.body = .beacon → after = with' r.entries) ∧
      (f.body = .leave →
        after = { departEffects x.winner r with seq := r.seq + 1, miss := Vector.replicate 16 0 }))

/-- R50, R77: in an attempt that carried abstentions and took, the frame is applied to the copy they left
when its sender did not abstain, its checks still pass, and it is not an ADMITTED REPLY: the copy is then
what the same frame makes of the copy as left when every remaining member reads ACK. Otherwise the frame
changes nothing, although the attempt has taken: the sequence is one higher and every count 0. -/
def Obligations.TakenWithAbstentionsAppliedOrNot : Prop :=
  ∀ (me : Station) (x : Seen) (r : Record) (f : Frame), (judge me x r).took = true → x.frame = some f →
    let abstained := fun n : Station => r.members.getLsbD n.val = true ∧ x.fields[n] = .abstain
    let left := ((List.finRange 16).filter (fun n => decide (abstained n))).foldl
      (fun copy n => departEffects n copy) r
    ((judge me x r).applied = true ↔ ¬ abstained x.winner ∧ contentOk me x.winner left f.body = true ∧
      ¬((∃ n c m p, f.body = .reply .admitted n c m p) ∧ ∃ n, abstained n)) ∧
    ((judge me x r).applied = true → (judge me x r).record =
      (judge me { x with fields := Vector.replicate 16 .ack } left).record) ∧
    ((judge me x r).applied = false → (judge me x r).record =
      { left with seq := r.seq + 1, miss := Vector.replicate 16 0 })

/-- R79, R80, R81, R82: the departure effects: the member set and the count, what each entry becomes, in
its place, and the join record. -/
def Obligations.DepartureEffectsByEntryAndRole : Prop :=
  ∀ (x : Station) (r : Record), let after := departEffects x r
    let stays := fun n : Station => n ≠ x ∧ r.members.getLsbD n.val = true
    let lowest := fun (j p : Station) => stays p ∧ p ≠ j ∧ ∀ q, stays q → q ≠ j → p ≤ q
    (∀ n : Station, after.members.getLsbD n.val = true ↔ stays n) ∧
    (∀ n : Station, after.miss[n] = if n = x then 0 else r.miss[n]) ∧
    after.seq = r.seq ∧ after.params = r.params ∧
    after.entries = r.entries.filterMap (fun e =>
      if e.claimant = some x then
        if e.orphan = false ∧ stays e.origin then some { e with claimant := none } else none
      else if e.origin = x ∧ e.orphan = false then
        if e.claimant = none then none else some { e with orphan := true }
      else some e) ∧
    (r.join = none → after.join = none) ∧
    (∀ j, r.join = some j →
      let waiting := j.waiting.filter (fun w => !(decide (w.1 = x) && decide (w.2 = .duplicate)))
      (j.joiner ≠ x → (∀ p, lowest j.joiner p →
          after.join = some
            (let respondent := if j.respondent = x then p else j.respondent
             if j.verdict = .admitted then { j with
               respondent := respondent, waiting := waiting, phase := .replyDue, cursor := 0,
               expected := 0 }
             else { j with respondent := respondent, waiting := waiting })) ∧
        ((∀ p, stays p → p = j.joiner) → after.join = none)) ∧
      (j.joiner = x → (waiting = [] → after.join = none) ∧
        ∀ w rest, waiting = w :: rest →
          (∀ p, lowest w.1 p → after.join = some {
            joiner := w.1, respondent := p, verdict := w.2, phase := .replyDue, cursor := 0,
            expected := 0, waiting := rest }) ∧
          ((∀ p, stays p → p = w.1) → after.join = none)))

/-- R78: the order of two departures in one judgement does not change the record that results. -/
def Obligations.DeparturesCommute : Prop :=
  ∀ (x y : Station) (r : Record), r.Lawful → r.members.getLsbD x.val = true → r.members.getLsbD y.val = true →
    departEffects x (departEffects y r) = departEffects y (departEffects x r)

/-- R4, R7, R9, R10, R12, R14, R15, R16, R17: at a member that is not the joiner, every judgement that leaves
a member in the record keeps all the laws of the record, whatever the frame and the fields. -/
def Obligations.JudgementKeepsTheLawsOfTheRecord : Prop :=
  ∀ (me : Station) (x : Seen) (r : Record), r.Lawful → r.members.getLsbD me.val = true →
    ¬ JoinsIn me r → (judge me x r).record.members ≠ 0 → (judge me x r).record.Lawful

/-- R16, R104: what a JOIN that takes without abstention does to the copy: by its verdict it creates the
join record, and the joiner joins when ADMITTED, or appends a waiting pair, or changes nothing for a
station already named or when no other member could be respondent. -/
def Obligations.JoinTakesByVerdict : Prop :=
  ∀ (me : Station) (x : Seen) (r : Record) (f : Frame) (p : Params), r.members ≠ 0 →
    (∀ n : Station, r.members.getLsbD n.val = true → x.fields[n] = .ack) → x.frame = some f →
    f.body = .join p →
    let after := (judge me x r).record
    let with' := fun (m : StationSet) (j : Option JoinRecord) =>
      { r with seq := r.seq + 1, miss := Vector.replicate 16 0, members := m, join := j }
    let member := r.members.getLsbD x.winner.val = true
    let verdict := fun (inRecord : Bool) => if member then Verdict.duplicate
      else if p ≠ r.params then .mismatch else if inRecord then .deferred else .admitted
    (∀ j, r.join = some j →
      (j.joiner = x.winner ∨ x.winner ∈ j.waiting.map Prod.fst → after = with' r.members r.join) ∧
      (j.joiner ≠ x.winner → x.winner ∉ j.waiting.map Prod.fst →
        after = with' r.members
          (some { j with waiting := j.waiting ++ [(x.winner, verdict true)] }))) ∧
    (r.join = none → (∀ n, r.members.getLsbD n.val = true → n = x.winner) → after = with' r.members none) ∧
    (r.join = none → ∀ q : Station, r.members.getLsbD q.val = true → q ≠ x.winner →
      (∀ n, r.members.getLsbD n.val = true → n ≠ x.winner → q ≤ n) →
      after = with' (if verdict false = .admitted then r.members ||| (1#16 <<< x.winner.val)
          else r.members)
        (some { joiner := x.winner, respondent := q, verdict := verdict false, phase := .replyDue,
                cursor := 0, expected := 0, waiting := [] }))

/-- R17, R18, R106, R107, R108, R109: the snapshot's frames at a member and at the joiner: which are
accepted as content, and what each does when it takes without abstention. -/
def Obligations.SnapshotFramesMoveTheJoinRecord : Prop :=
  ∀ (me : Station) (x : Seen) (r : Record) (f : Frame) (j : JoinRecord), r.members ≠ 0 →
    (∀ n : Station, r.members.getLsbD n.val = true → x.fields[n] = .ack) → x.frame = some f →
    r.join = some j →
    let joiner := j.joiner = me ∧ j.verdict = .admitted
    let after := (judge me x r).record
    let ok := contentOk me x.winner r f.body = true
    let with' := fun (es : List Entry) (k : Option JoinRecord) =>
      { r with seq := r.seq + 1, miss := Vector.replicate 16 0, entries := es, join := k }
    let promoted := match j.waiting with
      | [] => none
      | w :: rest => ((List.finRange 16).find? (fun p => r.members.getLsbD p.val && p != w.1)).map fun p => ({
          joiner := w.1, respondent := p, verdict := w.2, phase := .replyDue, cursor := 0, expected := 0,
          waiting := rest } : JoinRecord)
    (∀ v n count miss p, f.body = .reply v n count miss p →
      (ok ↔ x.winner = j.respondent ∧ miss = r.miss ∧ p = r.params ∧
        (v = .admitted → joiner ∨ count = r.entries.length) ∧ (v ≠ .admitted → count = 0) ∧
        (match j.waiting with
         | w :: _ => n = w.1 ∧ v = w.2
         | [] => n = j.joiner ∧ v = j.verdict ∧ j.phase = .replyDue)) ∧
      (ok → ∀ w rest, j.waiting = w :: rest →
        after = with' r.entries (some { j with waiting := rest })) ∧
      (ok → j.waiting = [] → v = .admitted →
        after = with' (if joiner then [] else r.entries)
          (some { j with phase := .sending, cursor := 0, expected := count })) ∧
      (ok → j.waiting = [] → v ≠ .admitted → after = with' r.entries none)) ∧
    (∀ position e, f.body = .entry position e →
      (ok ↔ x.winner = j.respondent ∧ j.phase = .sending ∧ position = j.cursor ∧
        j.cursor < j.expected ∧
        (joiner → ∀ y ∈ r.entries, y.slot ≠ e.slot) ∧
        (¬ joiner → r.entries[position]? = some e)) ∧
      (ok → after = with' (if joiner then r.entries ++ [e] else r.entries)
        (some { j with cursor := j.cursor + 1 }))) ∧
    (∀ count, f.body = .close count →
      (ok ↔ x.winner = j.respondent ∧ j.phase = .sending ∧ j.expected ≤ j.cursor ∧
        count = j.expected ∧ (joiner → count = r.entries.length)) ∧
      (ok → after = with' r.entries promoted))

/-- R20: two stations that are MEMBER with equal copies when an attempt began, and that had the same
winner, the same frame and the same response words, hold equal copies at its end if both are MEMBER then.
The joiner is left out, and the laws of the record are a premise. -/
def Obligations.CopiesStayAlike : Prop :=
  ∀ (s₁ s₂ t₁ t₂ : State) (a₁ a₂ : Attempt) (c : Instr) (r : Record),
    s₁.control.state = .member → s₂.control.state = .member → s₁.record = some r → s₂.record = some r →
    r.Lawful →
    ¬ JoinsIn s₁.number r → ¬ JoinsIn s₂.number r →
    s₁.bus.attempt = some a₁ → s₂.bus.attempt = some a₂ → a₁.discard = false → a₂.discard = false →
    a₁.winner = a₂.winner → a₁.framed = a₂.framed → frameOf a₁ = frameOf a₂ →
    exec c s₁ = .next t₁ → exec c s₂ = .next t₂ → endsAttempt a₁ c →
    t₁.control.state = .member → t₂.control.state = .member →
    t₁.record = t₂.record

/-! ### The station at the end of an attempt -/

/-- R2, R51, R52, R92, R93, R100, R102, R103, R118: the sender of a FOUND or a JOIN judges it from the sixteen
fields, and founds, waits for its reply, counts the failure, or at L failures goes back to LISTEN with the
fault of its kind. A founder offers what waited, its queued raises and then its active level lines. In FOUNDING
every attempt the station did not send, readable or not, complete or broken, and every own one whose readback
failed, sets the foreign-attempt flag, and no other does; an attempt that is not an own FOUND leaves the station
in FOUNDING with its purposes, and changes nothing else but the bus interface, the idle timer and the sent
purpose. That an own FOUND broken before its readback ended leaves the foreign-attempt flag is the model's
reading (log entry 27); that the state at the end of the attempt decides is its choice where that state was entered within
the attempt (log entry 33). -/
def Obligations.OwnFoundAndJoinAreJudgedHere : Prop :=
  (∀ (s : State) (a : Attempt) (c : Instr), EndsWith s a c → s.control.state = .founding → PlaceSound s →
    let foreign := s.control.foreign || a.driven.isNone || decide (a.readback = some false)
    ∃ t, exec c s = .next t ∧ t.control.foreign = foreign ∧
      ((∀ f p, a.driven = some f → f.body ≠ .found p) →
        t = ((s.setBus t.bus).setAgenda { s.agenda with
              idle := some (s.port.store.ti * 250)
              sent := if a.driven.isSome then none else s.agenda.sent }).setControl
            { s.control with foreign := foreign })) ∧
  ∀ (s : State) (a : Attempt) (c : Instr) (f : Frame) (p : Params) (q : Purpose) (h : Option Handle),
    EndsWith s a c → a.driven = some f → PlaceSound s → AgendaSound s →
    s.agenda.sent = some ⟨q, h⟩ → q ∈ s.agenda.purposes →
    let fields := windowFields (responsesOf a c)
    let counted := s.agenda.purposes.map (fun x => if x = q then { q with count := q.count + 1 } else x)
    let fault := fun kind : FaultKind => ({
      kind := kind, stamp := s.port.clock, station := none, slot := none, line := none, seq := none,
      cause := none } : FaultRecord)
    ∃ t, exec c s = .next t ∧
      (s.control.state = .founding → f.body = .found p → q.aim = .found →
        let taken := fields[s.number] = .ack ∧ ∀ n : Station, n ≠ s.number → fields[n] ≠ .refuse
        (taken → t.control.state = .member ∧ t.record = some {
            members := 1#16 <<< s.number.val, miss := Vector.replicate 16 0, seq := 1, params := p,
            entries := [], join := none } ∧
          (AccountsSound s → OffersWhatWaited s t)) ∧
        (¬ taken → t.record = none ∧
          (q.count + 1 < s.port.store.l → t.agenda.purposes = counted ∧
            t.control = { s.control with
              foreign := s.control.foreign || decide (a.readback = some false) }) ∧
          (s.port.store.l ≤ q.count + 1 → t.control.state = .listen ∧ q ∉ t.agenda.purposes ∧
            holdsAim (· == .found) t = false ∧ Reported t (fault .foundRefused)))) ∧
      (s.control.state = .joining → f.body = .join p → q.aim = .join →
        let taken := (∀ n : Station, fields[n] ≠ .refuse) ∧
          ∃ n : Station, n ≠ s.number ∧ fields[n] = .ack
        t.record = none ∧
        (taken → t.agenda.purposes = s.agenda.purposes.filter (· ≠ q) ∧
          t.control = { s.control with joinReply := some (4 * (s.port.store.ti * 250)) }) ∧
        (¬ taken → (q.count + 1 < s.port.store.l →
            t.agenda.purposes = counted ∧ t.control = s.control) ∧
          (s.port.store.l ≤ q.count + 1 → t.control.state = .listen ∧ t.control.note = some 0 ∧
            t.control.joinReply = none ∧ holdsAim (· == .join) t = false ∧
            Reported t (fault .joinTimeout))))

/-- R42, R99: what a station in LISTEN makes of an attempt that ends. While its backoff timer runs it
notes a readable head and nothing more. Otherwise a head that is not readable restarts the quiet timer;
a readable one leads to JOINING, unless an admission note is held, the head's member set holds this
station's number and the count stays below L: then the count rises and the quiet timer restarts. In
JOINING the agenda holds a JOIN purpose and nothing else. That the note of a head is cleared on leaving LISTEN
is the model's reading (log entry 20); that an attempt within which the station entered LISTEN, its own FOUND
or JOIN among them, is such an observation is the model's choice (log entry 33). -/
def Obligations.ListenObservesAttempts : Prop :=
  ∀ (s : State) (a : Attempt) (c : Instr), EndsWith s a c → s.control.state = .listen →
    let again := { s.control with quiet := some (s.port.store.tq * 1000) }
    ∃ t, exec c s = .next t ∧ t.record = s.record ∧ t.origin = s.origin ∧ t.claim = s.claim ∧
      (s.control.backoff ≠ none →
        t.control = { s.control with headNoted := s.control.headNoted || (headOf a).isSome }) ∧
      (s.control.backoff = none → headOf a = none → t.control = again) ∧
      (s.control.backoff = none → ∀ f, headOf a = some f →
        (∀ k, s.control.note = some k → f.members.getLsbD s.number.val = true →
          k + 1 < s.port.store.l → t.control = { again with note := some (k + 1) }) ∧
        (s.control.note = none ∨ f.members.getLsbD s.number.val = false ∨
            (∃ k, s.control.note = some k ∧ s.port.store.l ≤ k + 1) →
          t.control = { s.control with
            state := .joining, quiet := none, headNoted := false, note := none } ∧
          (PlaceSound s → t.agenda.purposes =
            [{ aim := .join, age := s.agenda.nextAge, count := 0, setAside := none }]) ∧
          holdsAim (fun x => x == .join || x == .found) t = true ∧ t.port.stateCause = true))

/-- R2, R37, R91, R97, R103, R105: what a JOINING station makes of an attempt that did not carry its own JOIN. One
that is no good REPLY, its own NULL and a receive error among them, and a REPLY that names another station or is
not judged taken, change nothing but the bus interface, the idle timer and the sent purpose. One that names it
is judged from the fields of the member set in its head, and taken it leads by its verdict to SYNCING with the
record loaded, to the backoff with an empty agenda, or to ISOLATED with a fault. That the sender of the REPLY is read from its head (log entry 9), and that the note of a head
is cleared as the backoff starts (log entry 20), are the model's reading; that a station which entered JOINING
within the attempt hears the REPLY too is its choice (log entry 33). -/
def Obligations.JoiningHearsItsReply : Prop :=
  (∀ (s : State) (a : Attempt) (c : Instr), EndsWith s a c → s.control.state = .joining → PlaceSound s →
    (∀ f p, a.driven = some f → f.body ≠ .join p) →
    (a.driven = none → ∀ f v n count miss p, frameOf a = some f → f.body ≠ .reply v n count miss p) →
    ∃ t, exec c s = .next t ∧
      t = (s.setBus t.bus).setAgenda { s.agenda with
        idle := some (s.port.store.ti * 250), sent := if a.driven.isSome then none else s.agenda.sent }) ∧
  ∀ (s : State) (a : Attempt) (c : Instr) (f : Frame) (v : Verdict) (n : Station) (count : Nat)
      (miss : Vector Nat 16) (p : Params),
    EndsWith s a c → s.control.state = .joining → PlaceSound s → a.driven = none →
    frameOf a = some f → f.body = .reply v n count miss p →
    let fields := windowFields (responsesOf a c)
    let named := fun m : Station => f.members.getLsbD m.val = true
    let taken := n = s.number ∧ ¬(named f.sender ∧ fields[f.sender] = .abstain) ∧
      (∀ m, named m → fields[m] = .ack ∨ fields[m] = .abstain) ∧
      (v = .admitted → ∀ m, named m → fields[m] ≠ .abstain)
    let fault := fun kind : FaultKind => ({
      kind := kind, stamp := s.port.clock, station := some f.sender, slot := none, line := none,
      seq := none, cause := none } : FaultRecord)
    ∃ t, exec c s = .next t ∧
      (¬ taken → t.record = none ∧
        t = (s.setBus t.bus).setAgenda { s.agenda with idle := some (s.port.store.ti * 250) }) ∧
      (taken → v = .admitted → t.control = { s.control with state := .syncing, joinReply := none } ∧
        holdsAim (· == .join) t = false ∧
        t.record = some {
          members := f.members, miss := Vector.replicate 16 0, seq := f.seq + 1, params := p,
          entries := []
          join := some {
            joiner := s.number, respondent := f.sender, verdict := .admitted, phase := .sending,
            cursor := 0, expected := count, waiting := [] } }) ∧
      (taken → v = .deferred → t.record = none ∧ t.agenda.purposes = [] ∧
        t.control = { s.control with
          joinReply := none, backoff := some ((s.number.val + 1) * 100, .sendJoin),
          headNoted := false }) ∧
      (taken → v = .mismatch ∨ v = .duplicate → t.control.state = .isolated ∧ t.record = none ∧
        t.agenda.purposes = [] ∧ t.control.joinReply = none ∧ t.control.backoff = none ∧
        t.bus.observing = false ∧ t.bus.request = false ∧
        Reported t (fault (if v = .mismatch then .configMismatch else .duplicateStation)))

/-- R36, R60, R113, R114, R133, R150, R157: a station departs at the end of the attempt in which its
ABSTAIN was given, or at its own judgement: its copy and its agenda are gone, its claims and its offered
raises end with their completions in order, its lines start over, its queued raises stay, and it goes
OFFLINE with LEFT when a LEAVE is held and to LISTEN with the backoff timer otherwise. LEFT outside LEAVING
cannot occur by R114 and is left out here. Where a DEPARTING station's ABSTAIN was not given, its wait and its
idle timer start again, a departure NULL it sent is removed, and it keeps all the rest (R41, R91); that this
removal needs no judgement is the model's reading (log entry 28). -/
def Obligations.DepartureClearsTheStationsRecords : Prop :=
  ∀ (s : State) (a : Attempt) (c : Instr) (r : Record), EndsWith s a c → s.record = some r →
    let departs := s.control.state = .departing ∧ a.stateAtClose = .departing ∧
      s.number.val / 4 < (responsesOf a c).length
    let judged := fun cause : DepartureCause => s.judging ∧
      (judgementOf s a c r).own = some cause ∧ (cause = .left → s.control.state = .leaving)
    let leaves := s.control.state = .leaving ∨ s.control.state = .departing ∧ s.control.cause = some .leave
    (departs ∨ (∃ cause, judged cause) →
      ∃ t, exec c s = .next t ∧ t.record = none ∧ t.agenda.purposes = [] ∧ t.claim.grants = [] ∧
        (∀ n : Line, let l := s.origin.lines[n]
          t.origin.lines[n] = if l.state = .want ∨ l.state = .offered ∨ l.state = .served then
            { l with state := .idle, memo := false, handle := none, timer := none }
          else { l with timer := none }) ∧
        t.origin.raises = (s.origin.raises.filter (fun x => x.state == .queued)).map
          (fun x => { x with timer := none }) ∧
        t.port.completions = s.port.completions ++
          s.claim.grants.filterMap (fun g => match g.state with
            | .unread => none
            | .inService => some (.grantLostDeparted g.handle)
            | .finishing => some (.finishLate g.handle)) ++
          (s.origin.raises.filter (fun x => x.state != .queued)).map (fun x => .raiseDiscarded x.id) ++
          (if leaves then [.leaveLeft] else []) ∧
        (leaves → t.control.state = .offline) ∧
        (¬ leaves → t.control.state = .listen ∧ t.control.quiet = none ∧
          t.control.backoff = some ((s.number.val + 1) * 100, .listen)) ∧
        t.control.cause = (if s.control.state = .departing then none else s.control.cause) ∧
        (∀ cause, judged cause → cause ≠ .left → Reported t {
          kind := .evicted, stamp := s.port.clock, station := some s.number, slot := none, line := none,
          seq := some (judgementOf s a c r).record.seq, cause := none })) ∧
    (s.control.state = .departing → ¬ departs →
      ∃ t, exec c s = .next t ∧ t.record = some r ∧ t.claim = s.claim ∧ t.origin = s.origin ∧
        t.control = { s.control with wait := some (s.port.store.ti * 250) } ∧
        t.port = { s.port with faults := t.port.faults, overflow := t.port.overflow } ∧
        t.agenda = { s.agenda with
          purposes := s.agenda.purposes.filter (fun p =>
            !(a.driven.isSome && s.agenda.sent.any (fun y => y.purpose.age == p.age)))
          sent := if a.driven.isSome then none else s.agenda.sent
          idle := some (s.port.store.ti * 250) })

/-- R58, R109, R110, R111: where a judgement that leaves this station in the group takes it. A diverged
copy, a lost snapshot and a LEAVE set aside in LEAVING lead to DEPARTING with an empty agenda and the copy
as judged; the CLOSE that completes its snapshot leads from SYNCING to MEMBER, where the station offers what
waited, its queued raises and then its active level lines (R118); otherwise it stays. That the cause is DESYNC
when a diverged copy has lost its snapshot too (log entry 14), and that a LEAVE set aside outside LEAVING
moves nothing (log entry 27), are the model's choice and reading. -/
def Obligations.JudgementMovesTheStation : Prop :=
  ∀ (s : State) (a : Attempt) (c : Instr) (r : Record), EndsWith s a c → s.record = some r →
    s.judging → PlaceSound s → AgendaSound s →
    let j := judgementOf s a c r
    let leaving := s.control.state = .leaving
    let closed := j.applied = true ∧ JoinsIn s.number r ∧
      ∃ f count, frameOf a = some f ∧ f.body = .close count
    let lost := (s.control.state = .syncing ∨ leaving ∧ JoinsIn s.number r) ∧
      ¬ JoinsIn s.number j.record ∧ ¬ closed
    let spent := leaving ∧ a.driven.isSome ∧ j.took = false ∧ ∃ q ∈ s.agenda.purposes,
      s.agenda.sent.map (fun x => x.purpose.age) = some q.age ∧ q.aim = .leave ∧
      s.port.store.l ≤ q.count + 1
    let fault := fun kind : FaultKind => ({
      kind := kind, stamp := s.port.clock, station := none, slot := none, line := none,
      seq := some j.record.seq, cause := none } : FaultRecord)
    j.own = none →
      ∃ t, exec c s = .next t ∧ t.record = some j.record ∧
        (j.diverged = true ∨ lost ∨ spent →
          t.control.state = .departing ∧ t.control.wait = some (s.port.store.ti * 250) ∧
          t.agenda.purposes = [] ∧
          t.control.cause = (if leaving then some .leave
            else if j.diverged = true then some .desync else some .restart) ∧
          (∀ n : Line, t.origin.lines[n].timer = none) ∧ ∀ x ∈ t.origin.raises, x.timer = none) ∧
        (j.diverged = true → Reported t (fault .desync)) ∧
        (lost → Reported t (fault .joinTimeout)) ∧
        (j.diverged = false → ¬ lost → ¬ spent → s.control.state = .syncing → closed →
          t.control.state = .member ∧
          (AccountsSound s → (∀ n : Line, s.origin.lines[n].handle = none) →
            (∀ x ∈ s.origin.raises, x.handle = none) →
            (∀ y, s.agenda.sent = some y → ∀ z prio, y.purpose.aim ≠ .offer z prio) →
            OffersWhatWaited s t)) ∧
        (j.diverged = false → ¬ lost → ¬ spent → s.control.state ≠ .syncing ∨ ¬ closed →
          t.control.state = s.control.state)

/-- R91, R92, R94, R106, R138: what the outcome of an attempt does to the purpose it was built from, at a
member that stays one, and in SYNCING and LEAVING: a take removes it; a failure counts one more, or at L sets
it aside for Tb and posts RETRY_LIMIT. (The respondent duty and the CLAIM may be withdrawn by their owners at
the same judgement.) After every judgement that leaves this station in the group, the respondent duty is held
exactly while this station is respondent, in the states that take it in; the CLAIM purpose stands exactly
while the claim unit wants to claim; and a BEACON is held only if the attempt was this station's own BEACON
and failed. That RETRY_LIMIT is posted for a duty which the same judgement then removes is the model's reading
(log entry 30). -/
def Obligations.AttemptsCountAgainstTheirPurpose : Prop :=
  (∀ (s : State) (a : Attempt) (c : Instr) (r : Record) (q : Purpose) (h : Option Handle),
    EndsWith s a c → s.record = some r → s.control.state = .member → AgendaSound s → a.driven.isSome →
    s.agenda.sent = some ⟨q, h⟩ → q ∈ s.agenda.purposes →
    q.aim ≠ .join → q.aim ≠ .found → q.aim ≠ .departureNull →
    let j := judgementOf s a c r
    let after := if q.count + 1 < s.port.store.l then { q with count := q.count + 1 }
      else { q with count := 0, setAside := some ((s.number.val + 1) * 100) }
    j.own = none → j.diverged = false →
      ∃ t, exec c s = .next t ∧ t.agenda.sent = none ∧
        (j.took = true → ∀ p ∈ t.agenda.purposes, p.age ≠ q.age) ∧
        (j.took = false → (∀ p ∈ t.agenda.purposes, p.age = q.age → p = after) ∧
          (q.aim ≠ .duty → q.aim ≠ .claim → after ∈ t.agenda.purposes) ∧
          (s.port.store.l ≤ q.count + 1 → Reported t {
            kind := .retryLimit, stamp := s.port.clock, station := none
            slot := match q.aim with
              | .done g | .revoke g _ _ | .withdraw g _ => some g.slot
              | _ => none
            line := match q.aim with
              | .offer (.line n) _ => some n
              | _ => none
            seq := some j.record.seq, cause := none }))) ∧
  (∀ (s : State) (a : Attempt) (c : Instr) (r : Record) (q : Purpose) (h : Option Handle),
    EndsWith s a c → s.record = some r → s.control.state = .syncing ∨ s.control.state = .leaving →
    PlaceSound s → AgendaSound s → a.driven.isSome → s.agenda.sent = some ⟨q, h⟩ →
    q ∈ s.agenda.purposes →
    let j := judgementOf s a c r
    let after := if q.count + 1 < s.port.store.l then { q with count := q.count + 1 }
      else { q with count := 0, setAside := some ((s.number.val + 1) * 100) }
    j.own = none →
      ∃ t, exec c s = .next t ∧ t.agenda.sent = none ∧
        (t.control.state ≠ .departing →
          (j.took = true → ∀ p ∈ t.agenda.purposes, p.age ≠ q.age) ∧
          (j.took = false → (∀ p ∈ t.agenda.purposes, p.age = q.age → p = after) ∧
            (q.aim ≠ .duty → q.aim ≠ .claim → after ∈ t.agenda.purposes))) ∧
        (j.took = false → s.port.store.l ≤ q.count + 1 → Reported t {
          kind := .retryLimit, stamp := s.port.clock, station := none
          slot := match q.aim with
            | .done g | .revoke g _ _ | .withdraw g _ => some g.slot
            | _ => none
          line := match q.aim with
            | .offer (.line n) _ => some n
            | _ => none
          seq := some j.record.seq, cause := none })) ∧
  (∀ (s : State) (a : Attempt) (c : Instr) (r : Record), EndsWith s a c → s.record = some r →
    s.judging →
    let j := judgementOf s a c r
    let ownBeaconFailed := a.driven.isSome = true ∧ j.took = false ∧
      ∃ y, s.agenda.sent = some y ∧ y.purpose.aim = .beacon
    j.own = none →
      ∃ t, exec c s = .next t ∧
        (t.control.state = .member ∨ t.control.state = .leaving →
          (holdsAim (· == .duty) t = true ↔
            ∃ k, j.record.join = some k ∧ k.respondent = s.number)) ∧
        (holdsAim (· == .claim) t = true ↔ wantsToClaim t = true) ∧
        (¬ ownBeaconFailed → holdsAim (· == .beacon) t = false) ∧
        (ownBeaconFailed → t.control.state ≠ .departing →
          holdsAim (· == .beacon) t = holdsAim (· == .beacon) s))

/-- R65, R90, R120, R131: at the take of its own OFFER the line or raise record is OFFERED with the slot of
the frame and the sequence of its head as handle; a level line that is inactive by then gains a WITHDRAW with
that handle and its own number, unless one is held for the handle. So it is at a member and in LEAVING, if
the station stays there. -/
def Obligations.OfferTakenGivesTheHandle : Prop :=
  ∀ (s : State) (a : Attempt) (c : Instr) (r : Record) (f : Frame) (q : Purpose) (h : Option Handle)
      (k : Slot) (code : Code) (prio prio' : Priority) (targets : StationSet) (payload : Option Word32),
    EndsWith s a c → s.record = some r → s.control.state = .member ∨ s.control.state = .leaving →
    a.winner = s.number →
    a.driven = some f → f.body = .offer k code prio targets payload → s.agenda.sent = some ⟨q, h⟩ →
    let j := judgementOf s a c r
    j.applied = true → j.own = none →
      (∀ n : Line, q.aim = .offer (.line n) prio' →
        s.origin.lines[n].state = .want ∨ s.origin.lines[n].state = .idle →
        s.origin.lines[n].handle = none →
        ∃ t, exec c s = .next t ∧ ((s.control.state = .leaving → t.control.state = .leaving) →
          t.origin.lines[n] = { s.origin.lines[n] with state := .offered, handle := some ⟨k, f.seq⟩ } ∧
          (∀ p ∈ t.agenda.purposes, offerOf (.line n) p.aim = false) ∧
          (s.origin.lines[n].mode = .levelHigh ∨ s.origin.lines[n].mode = .levelLow → lineActive s n = false →
            holdsAim (withdrawOf ⟨k, f.seq⟩) t = true ∧
            (holdsAim (withdrawOf ⟨k, f.seq⟩) s = false →
              holdsAim (· == .withdraw ⟨k, f.seq⟩ n) t = true)))) ∧
      (∀ x ∈ s.origin.raises, q.aim = .offer (.raise x.id) prio' → AccountsSound s → x.handle = none →
        ∃ t, exec c s = .next t ∧ ((s.control.state = .leaving → t.control.state = .leaving) →
          { x with state := .offered, handle := some ⟨k, f.seq⟩ } ∈ t.origin.raises))

/-- R121, R123, R124, R126, R127, R128, R134: what becomes of the line record that holds a handle when a
judgement changes the entry of that handle once, at a member that stays one and at a station that stays in
LEAVING, where no line is re-armed: a line that enters WANT has an OFFER purpose of its priority, and a level
line returned while inactive a WITHDRAW of its own number. That a service timer which still runs stops at a
REVOKE that takes is the model's reading (log entry 26), and what becomes of an edge line at a WITHDRAW that
takes is the model's choice (log entry 32). -/
def Obligations.LinesFollowTheirEntries : Prop :=
  ∀ (s : State) (a : Attempt) (c : Instr) (r : Record) (n : Line) (h : Handle) (e : Entry),
    EndsWith s a c → s.record = some r → s.control.state = .member ∨ s.control.state = .leaving →
    r.Ordered →
    let l := s.origin.lines[n]
    let j := judgementOf s a c r
    l.handle = some h → (∀ m : Line, m ≠ n → s.origin.lines[m].handle ≠ some h) →
    l.state = .offered ∨ l.state = .served →
    e ∈ r.entries → e.slot = h.slot → e.tag = h.tag → e.origin = s.number → e.orphan = false →
    j.own = none → j.diverged = false →
    let level := (l.mode = .levelHigh ∨ l.mode = .levelLow)
    let active := lineActive s n = true
    let withdrawn := fun t : State => holdsAim (withdrawOf h) t = true ∧
      (holdsAim (withdrawOf h) s = false →
        holdsAim (· == .withdraw h n) t = true)
    let offered := fun t : State => holdsAim (offerOf (.line n)) t = true ∧
      (holdsAim (offerOf (.line n)) s = false →
        holdsAim (· == .offer (.line n) l.priority) t = true)
    let member := s.control.state = .member
    ∃ t, exec c s = .next t ∧ ((s.control.state = .leaving → t.control.state = .leaving) →
      (changesOf j h = [] → t.origin.lines[n] = l) ∧
      (∀ b, changesOf j h = [⟨e, b⟩] →
        (∀ x, b = .claimed x → t.origin.lines[n] = { l with
          state := .served, timer := if l.timeout = 0 then none else some (l.timeout * 1000) }) ∧
        (b = .returnedByRevoke ∨ (∃ x, b = .returnedByDeparture x) →
          t.origin.lines[n] = { l with state := .offered, timer := none } ∧
          (level → ¬ active → withdrawn t)) ∧
        (b = .removedByDone →
          let rearmed := member ∧ (level ∧ active ∨ ¬ level ∧ l.memo = true)
          t.origin.lines[n] = { l with
            state := if rearmed then .want else .idle, memo := false, handle := none, timer := none } ∧
          (rearmed → offered t)) ∧
        (b = .removedByWithdraw →
          let rearmed := member ∧ level ∧ active
          t.origin.lines[n] = { l with
            state := if rearmed then .want else .idle, handle := none, timer := none } ∧
          (rearmed → offered t)) ∧
        (b = .removedByRevoke →
          t.origin.lines[n] = { l with
            state := .holdoff, memo := false, handle := none, timer := none } ∧
          Reported t {
            kind := .serviceFailed, stamp := s.port.clock, station := none, slot := some h.slot,
            line := some n, seq := some j.record.seq, cause := none })))

/-- R123, R126, R128, R131, R132, R134: what becomes of the raise record that holds a handle when a judgement
changes the entry of that handle once, at a member that stays one and at a station that stays in LEAVING:
claimed, returned, or ended with its completion. That a service timer which still runs stops at a REVOKE that
takes is the model's reading (log entry 26); that a raise stays as it is at a WITHDRAW that takes, which this
station never sends for it, is the model's choice (log entry 32). -/
def Obligations.RaisesFollowTheirEntries : Prop :=
  ∀ (s : State) (a : Attempt) (c : Instr) (r : Record) (x : RaiseRecord) (h : Handle) (e : Entry),
    EndsWith s a c → s.record = some r → s.control.state = .member ∨ s.control.state = .leaving →
    r.Ordered → AccountsSound s →
    let j := judgementOf s a c r
    x ∈ s.origin.raises → x.handle = some h → (∀ n : Line, s.origin.lines[n].handle ≠ some h) →
    (∀ y ∈ s.origin.raises, y.handle = some h → y = x) → x.state ≠ .queued →
    (∀ p, ¬ s.agenda.sent.any (fun y => y.purpose.aim == .offer (.raise x.id) p)) →
    e ∈ r.entries → e.slot = h.slot → e.tag = h.tag → e.origin = s.number → e.orphan = false →
    j.own = none → j.diverged = false →
    let timeout := if x.timeout = 0 then s.port.store.raiseTimeout else x.timeout
    ∃ t, exec c s = .next t ∧ ((s.control.state = .leaving → t.control.state = .leaving) →
      (changesOf j h = [] → x ∈ t.origin.raises) ∧
      (∀ b, changesOf j h = [⟨e, b⟩] →
        (∀ y, b = .claimed y → { x with
          state := .served, timer := if timeout = 0 then none else some (timeout * 1000) } ∈
            t.origin.raises) ∧
        (b = .returnedByRevoke ∨ (∃ y, b = .returnedByDeparture y) →
          { x with state := .offered, timer := none } ∈ t.origin.raises) ∧
        (b = .removedByWithdraw → x ∈ t.origin.raises) ∧
        (b = .removedByDone ∨ b = .removedByRevoke →
          (∀ y ∈ t.origin.raises, y.id ≠ x.id) ∧
          (if b = .removedByDone then .raiseServiced x.id else .raiseDropped x.id) ∈
            t.port.completions)))

/-- R140, R141, R144, R145: at a judgement that leaves this station in the group, a grant record stays
exactly while its entry is CLAIMED by this station with its tag; one that ends posts DONE_TAKEN when a
DONE removed the entry and the completion of a lost claim otherwise, if the host has read it; and a claim
this station has just won is appended UNREAD. That an UNREAD record whose entry a DONE removes leaves no
completion is the model's reading (log entry 19). -/
def Obligations.GrantsFollowTheirClaims : Prop :=
  ∀ (s : State) (a : Attempt) (c : Instr) (r : Record), EndsWith s a c → s.record = some r →
    s.judging → r.Ordered →
    let j := judgementOf s a c r
    let stays := fun g : Grant => ∃ e ∈ j.record.entries,
      e.slot = g.handle.slot ∧ e.tag = g.handle.tag ∧ e.claimant = some s.number
    let done := fun g : Grant => ∃ ch ∈ changesOf j g.handle, ch.became = .removedByDone
    let ending := fun g : Grant => match g.state with
      | .unread => none
      | .inService =>
        if decide (done g) then some (Completion.finishDoneTaken g.handle)
        else some (.grantLostRevoked g.handle)
      | .finishing =>
        if decide (done g) then some (.finishDoneTaken g.handle) else some (.finishLate g.handle)
    j.own = none →
      ∃ t raised, exec c s = .next t ∧
        t.claim.filters = s.claim.filters ∧ t.claim.paused = s.claim.paused ∧
        t.claim.grants = s.claim.grants.filter (fun g => decide (stays g)) ++
          (if a.driven.isSome then
            (j.changes.filter (fun ch => ch.became == .claimed s.number)).map (fun ch => {
              handle := ⟨ch.entry.slot, ch.entry.tag⟩, code := ch.entry.code,
              priority := ch.entry.priority, origin := ch.entry.origin, payload := ch.entry.payload,
              state := .unread })
          else []) ∧
        t.port.completions = s.port.completions ++
          (s.claim.grants.filter (fun g => !decide (stays g))).filterMap ending ++ raised ∧
        ∀ x ∈ raised, ∃ id, x = .raiseServiced id ∨ x = .raiseDropped id

/-! ### What every step keeps -/

/-- After a reset everything that holds of the station in every state holds (R1, R12, R23, R84, R96, R116,
R135, R158, R159, R161). -/
def Obligations.SoundAtReset : Prop :=
  Sound State.reset

/-- R1, R96, R97: every step keeps what the membership controller holds in step with the station state. -/
def Obligations.EveryStepKeepsThePlace : Prop :=
  ∀ s t : State, PlaceSound s → step s = .next t → PlaceSound t

/-- R12, R84, R141, R158, R159, R161: every step keeps all of it: the order list of the copy, the agenda with no
two purposes of one kind for one handle or source, the grant list, the bounds of the queues, and every
reservation with the record or the leave it belongs to. -/
def Obligations.EveryStepKeepsTheStationSound : Prop :=
  ∀ s t : State, Sound s → step s = .next t → Sound t
end

