-- ==== Sys2Proof/Laws/State.lean ====
section
/-! SUPPORT. Reading a block of the station after another block, or the same one, was replaced: one
lemma for each block and each replacement. -/

namespace Sys2Proof.Machine

@[simp] theorem State.setBus_number (s : State) (x : Bus) : (s.setBus x).number = s.number := rfl
@[simp] theorem State.setBus_bus (s : State) (x : Bus) : (s.setBus x).bus = x := rfl
@[simp] theorem State.setBus_record (s : State) (x : Bus) : (s.setBus x).record = s.record := rfl
@[simp] theorem State.setBus_agenda (s : State) (x : Bus) : (s.setBus x).agenda = s.agenda := rfl
@[simp] theorem State.setBus_control (s : State) (x : Bus) : (s.setBus x).control = s.control := rfl
@[simp] theorem State.setBus_origin (s : State) (x : Bus) : (s.setBus x).origin = s.origin := rfl
@[simp] theorem State.setBus_claim (s : State) (x : Bus) : (s.setBus x).claim = s.claim := rfl
@[simp] theorem State.setBus_port (s : State) (x : Bus) : (s.setBus x).port = s.port := rfl
@[simp] theorem State.setBus_pending (s : State) (x : Bus) : (s.setBus x).pending = s.pending := rfl

@[simp] theorem State.setRecord_number (s : State) (x : Option Record) : (s.setRecord x).number = s.number := rfl
@[simp] theorem State.setRecord_bus (s : State) (x : Option Record) : (s.setRecord x).bus = s.bus := rfl
@[simp] theorem State.setRecord_record (s : State) (x : Option Record) : (s.setRecord x).record = x := rfl
@[simp] theorem State.setRecord_agenda (s : State) (x : Option Record) : (s.setRecord x).agenda = s.agenda := rfl
@[simp] theorem State.setRecord_control (s : State) (x : Option Record) : (s.setRecord x).control = s.control := rfl
@[simp] theorem State.setRecord_origin (s : State) (x : Option Record) : (s.setRecord x).origin = s.origin := rfl
@[simp] theorem State.setRecord_claim (s : State) (x : Option Record) : (s.setRecord x).claim = s.claim := rfl
@[simp] theorem State.setRecord_port (s : State) (x : Option Record) : (s.setRecord x).port = s.port := rfl
@[simp] theorem State.setRecord_pending (s : State) (x : Option Record) : (s.setRecord x).pending = s.pending := rfl

@[simp] theorem State.setAgenda_number (s : State) (x : Agenda) : (s.setAgenda x).number = s.number := rfl
@[simp] theorem State.setAgenda_bus (s : State) (x : Agenda) : (s.setAgenda x).bus = s.bus := rfl
@[simp] theorem State.setAgenda_record (s : State) (x : Agenda) : (s.setAgenda x).record = s.record := rfl
@[simp] theorem State.setAgenda_agenda (s : State) (x : Agenda) : (s.setAgenda x).agenda = x := rfl
@[simp] theorem State.setAgenda_control (s : State) (x : Agenda) : (s.setAgenda x).control = s.control := rfl
@[simp] theorem State.setAgenda_origin (s : State) (x : Agenda) : (s.setAgenda x).origin = s.origin := rfl
@[simp] theorem State.setAgenda_claim (s : State) (x : Agenda) : (s.setAgenda x).claim = s.claim := rfl
@[simp] theorem State.setAgenda_port (s : State) (x : Agenda) : (s.setAgenda x).port = s.port := rfl
@[simp] theorem State.setAgenda_pending (s : State) (x : Agenda) : (s.setAgenda x).pending = s.pending := rfl

@[simp] theorem State.setControl_number (s : State) (x : Control) : (s.setControl x).number = s.number := rfl
@[simp] theorem State.setControl_bus (s : State) (x : Control) : (s.setControl x).bus = s.bus := rfl
@[simp] theorem State.setControl_record (s : State) (x : Control) : (s.setControl x).record = s.record := rfl
@[simp] theorem State.setControl_agenda (s : State) (x : Control) : (s.setControl x).agenda = s.agenda := rfl
@[simp] theorem State.setControl_control (s : State) (x : Control) : (s.setControl x).control = x := rfl
@[simp] theorem State.setControl_origin (s : State) (x : Control) : (s.setControl x).origin = s.origin := rfl
@[simp] theorem State.setControl_claim (s : State) (x : Control) : (s.setControl x).claim = s.claim := rfl
@[simp] theorem State.setControl_port (s : State) (x : Control) : (s.setControl x).port = s.port := rfl
@[simp] theorem State.setControl_pending (s : State) (x : Control) : (s.setControl x).pending = s.pending := rfl

@[simp] theorem State.setOrigin_number (s : State) (x : Origin) : (s.setOrigin x).number = s.number := rfl
@[simp] theorem State.setOrigin_bus (s : State) (x : Origin) : (s.setOrigin x).bus = s.bus := rfl
@[simp] theorem State.setOrigin_record (s : State) (x : Origin) : (s.setOrigin x).record = s.record := rfl
@[simp] theorem State.setOrigin_agenda (s : State) (x : Origin) : (s.setOrigin x).agenda = s.agenda := rfl
@[simp] theorem State.setOrigin_control (s : State) (x : Origin) : (s.setOrigin x).control = s.control := rfl
@[simp] theorem State.setOrigin_origin (s : State) (x : Origin) : (s.setOrigin x).origin = x := rfl
@[simp] theorem State.setOrigin_claim (s : State) (x : Origin) : (s.setOrigin x).claim = s.claim := rfl
@[simp] theorem State.setOrigin_port (s : State) (x : Origin) : (s.setOrigin x).port = s.port := rfl
@[simp] theorem State.setOrigin_pending (s : State) (x : Origin) : (s.setOrigin x).pending = s.pending := rfl

@[simp] theorem State.setClaim_number (s : State) (x : Claim) : (s.setClaim x).number = s.number := rfl
@[simp] theorem State.setClaim_bus (s : State) (x : Claim) : (s.setClaim x).bus = s.bus := rfl
@[simp] theorem State.setClaim_record (s : State) (x : Claim) : (s.setClaim x).record = s.record := rfl
@[simp] theorem State.setClaim_agenda (s : State) (x : Claim) : (s.setClaim x).agenda = s.agenda := rfl
@[simp] theorem State.setClaim_control (s : State) (x : Claim) : (s.setClaim x).control = s.control := rfl
@[simp] theorem State.setClaim_origin (s : State) (x : Claim) : (s.setClaim x).origin = s.origin := rfl
@[simp] theorem State.setClaim_claim (s : State) (x : Claim) : (s.setClaim x).claim = x := rfl
@[simp] theorem State.setClaim_port (s : State) (x : Claim) : (s.setClaim x).port = s.port := rfl
@[simp] theorem State.setClaim_pending (s : State) (x : Claim) : (s.setClaim x).pending = s.pending := rfl

@[simp] theorem State.setPort_number (s : State) (x : Port) : (s.setPort x).number = s.number := rfl
@[simp] theorem State.setPort_bus (s : State) (x : Port) : (s.setPort x).bus = s.bus := rfl
@[simp] theorem State.setPort_record (s : State) (x : Port) : (s.setPort x).record = s.record := rfl
@[simp] theorem State.setPort_agenda (s : State) (x : Port) : (s.setPort x).agenda = s.agenda := rfl
@[simp] theorem State.setPort_control (s : State) (x : Port) : (s.setPort x).control = s.control := rfl
@[simp] theorem State.setPort_origin (s : State) (x : Port) : (s.setPort x).origin = s.origin := rfl
@[simp] theorem State.setPort_claim (s : State) (x : Port) : (s.setPort x).claim = s.claim := rfl
@[simp] theorem State.setPort_port (s : State) (x : Port) : (s.setPort x).port = x := rfl
@[simp] theorem State.setPort_pending (s : State) (x : Port) : (s.setPort x).pending = s.pending := rfl

@[simp] theorem State.setPending_number (s : State) (x : List Instr) : (s.setPending x).number = s.number := rfl
@[simp] theorem State.setPending_bus (s : State) (x : List Instr) : (s.setPending x).bus = s.bus := rfl
@[simp] theorem State.setPending_record (s : State) (x : List Instr) : (s.setPending x).record = s.record := rfl
@[simp] theorem State.setPending_agenda (s : State) (x : List Instr) : (s.setPending x).agenda = s.agenda := rfl
@[simp] theorem State.setPending_control (s : State) (x : List Instr) : (s.setPending x).control = s.control := rfl
@[simp] theorem State.setPending_origin (s : State) (x : List Instr) : (s.setPending x).origin = s.origin := rfl
@[simp] theorem State.setPending_claim (s : State) (x : List Instr) : (s.setPending x).claim = s.claim := rfl
@[simp] theorem State.setPending_port (s : State) (x : List Instr) : (s.setPending x).port = s.port := rfl
@[simp] theorem State.setPending_pending (s : State) (x : List Instr) : (s.setPending x).pending = x := rfl

end Sys2Proof.Machine
end

