-- ==== Sys2Proof/Laws/Frames.lean ====
section
/-! SUPPORT. What each shared operation leaves as it was: one lemma for each operation, with every
block of the station that the operation does not touch. -/

namespace Sys2Proof.Machine

/-! ### Queues, results and reservations -/

@[simp] theorem postFault_frame (k : FaultKind) (a : Option Station) (b : Option Slot) (c : Option Line) (d : Option DepartureCause) (s : State) :
    (postFault k a b c d s).number = s.number ∧ (postFault k a b c d s).bus = s.bus ∧
      (postFault k a b c d s).record = s.record ∧ (postFault k a b c d s).agenda = s.agenda ∧
      (postFault k a b c d s).control = s.control ∧ (postFault k a b c d s).origin = s.origin ∧
      (postFault k a b c d s).claim = s.claim ∧ (postFault k a b c d s).pending = s.pending := by
  simp only [postFault]
  (repeat' split) <;> simp

@[simp] theorem postCompletions_frame (cs : List Completion) (s : State) :
    (postCompletions cs s).number = s.number ∧ (postCompletions cs s).bus = s.bus ∧
      (postCompletions cs s).record = s.record ∧ (postCompletions cs s).agenda = s.agenda ∧
      (postCompletions cs s).control = s.control ∧ (postCompletions cs s).origin = s.origin ∧
      (postCompletions cs s).claim = s.claim ∧ (postCompletions cs s).pending = s.pending := by simp [postCompletions]

@[simp] theorem reserve_frame (s : State) :
    (reserve s).number = s.number ∧ (reserve s).bus = s.bus ∧ (reserve s).record = s.record ∧
      (reserve s).agenda = s.agenda ∧ (reserve s).control = s.control ∧ (reserve s).origin = s.origin ∧
      (reserve s).claim = s.claim ∧ (reserve s).pending = s.pending := by simp [reserve]

@[simp] theorem answerHost_frame (a b c d : Word32) (s : State) :
    (answerHost a b c d s).number = s.number ∧ (answerHost a b c d s).bus = s.bus ∧
      (answerHost a b c d s).record = s.record ∧ (answerHost a b c d s).agenda = s.agenda ∧
      (answerHost a b c d s).control = s.control ∧ (answerHost a b c d s).origin = s.origin ∧
      (answerHost a b c d s).claim = s.claim ∧ (answerHost a b c d s).pending = s.pending := by simp [answerHost]

@[simp] theorem answerCode_frame (a : Word32) (s : State) :
    (answerCode a s).number = s.number ∧ (answerCode a s).bus = s.bus ∧
      (answerCode a s).record = s.record ∧ (answerCode a s).agenda = s.agenda ∧
      (answerCode a s).control = s.control ∧ (answerCode a s).origin = s.origin ∧
      (answerCode a s).claim = s.claim ∧ (answerCode a s).pending = s.pending := by simp [answerCode]

@[simp] theorem takeCommand_frame (a : Word32) (s : State) :
    (takeCommand a s).number = s.number ∧ (takeCommand a s).bus = s.bus ∧
      (takeCommand a s).record = s.record ∧ (takeCommand a s).agenda = s.agenda ∧
      (takeCommand a s).control = s.control ∧ (takeCommand a s).origin = s.origin ∧
      (takeCommand a s).claim = s.claim ∧ (takeCommand a s).pending = s.pending := by simp [takeCommand]

@[simp] theorem setStore_frame (f : Store → Store) (s : State) :
    (setStore f s).number = s.number ∧ (setStore f s).bus = s.bus ∧ (setStore f s).record = s.record ∧
      (setStore f s).agenda = s.agenda ∧ (setStore f s).control = s.control ∧
      (setStore f s).origin = s.origin ∧ (setStore f s).claim = s.claim ∧
      (setStore f s).pending = s.pending := by simp [setStore]

/-! ### Purposes -/

@[simp] theorem addPurpose_frame (a : Aim) (s : State) :
    (addPurpose a s).number = s.number ∧ (addPurpose a s).bus = s.bus ∧
      (addPurpose a s).record = s.record ∧ (addPurpose a s).control = s.control ∧
      (addPurpose a s).origin = s.origin ∧ (addPurpose a s).claim = s.claim ∧
      (addPurpose a s).port = s.port ∧ (addPurpose a s).pending = s.pending := by
  simp only [addPurpose]
  (repeat' split) <;> simp

@[simp] theorem dropPurposes_frame (p : Aim → Bool) (s : State) :
    (dropPurposes p s).number = s.number ∧ (dropPurposes p s).bus = s.bus ∧
      (dropPurposes p s).record = s.record ∧ (dropPurposes p s).control = s.control ∧
      (dropPurposes p s).origin = s.origin ∧ (dropPurposes p s).claim = s.claim ∧
      (dropPurposes p s).port = s.port ∧ (dropPurposes p s).pending = s.pending := by simp [dropPurposes]

@[simp] theorem emptyAgenda_frame (s : State) :
    (emptyAgenda s).number = s.number ∧ (emptyAgenda s).bus = s.bus ∧
      (emptyAgenda s).record = s.record ∧ (emptyAgenda s).control = s.control ∧
      (emptyAgenda s).origin = s.origin ∧ (emptyAgenda s).claim = s.claim ∧
      (emptyAgenda s).port = s.port ∧ (emptyAgenda s).pending = s.pending := by simp [emptyAgenda]

@[simp] theorem dropSent_frame (s : State) :
    (dropSent s).number = s.number ∧ (dropSent s).bus = s.bus ∧ (dropSent s).record = s.record ∧
      (dropSent s).control = s.control ∧ (dropSent s).origin = s.origin ∧
      (dropSent s).claim = s.claim ∧ (dropSent s).port = s.port ∧ (dropSent s).pending = s.pending := by
  simp only [dropSent]
  (repeat' split) <;> simp

@[simp] theorem countSent_frame (took : Bool) (s : State) :
    (countSent took s).number = s.number ∧ (countSent took s).bus = s.bus ∧
      (countSent took s).record = s.record ∧ (countSent took s).control = s.control ∧
      (countSent took s).origin = s.origin ∧ (countSent took s).claim = s.claim ∧
      (countSent took s).port = s.port ∧ (countSent took s).pending = s.pending := by
  simp only [countSent]
  (repeat' split) <;> simp

@[simp] theorem clearSent_frame (s : State) :
    (clearSent s).number = s.number ∧ (clearSent s).bus = s.bus ∧ (clearSent s).record = s.record ∧
      (clearSent s).control = s.control ∧ (clearSent s).origin = s.origin ∧
      (clearSent s).claim = s.claim ∧ (clearSent s).port = s.port ∧ (clearSent s).pending = s.pending := by simp [clearSent]

@[simp] theorem stopIdle_frame (s : State) :
    (stopIdle s).number = s.number ∧ (stopIdle s).bus = s.bus ∧ (stopIdle s).record = s.record ∧
      (stopIdle s).control = s.control ∧ (stopIdle s).origin = s.origin ∧ (stopIdle s).claim = s.claim ∧
      (stopIdle s).port = s.port ∧ (stopIdle s).pending = s.pending := by simp [stopIdle]

@[simp] theorem restartIdle_frame (s : State) :
    (restartIdle s).number = s.number ∧ (restartIdle s).bus = s.bus ∧
      (restartIdle s).record = s.record ∧ (restartIdle s).control = s.control ∧
      (restartIdle s).origin = s.origin ∧ (restartIdle s).claim = s.claim ∧
      (restartIdle s).port = s.port ∧ (restartIdle s).pending = s.pending := by simp [restartIdle]

@[simp] theorem updateWant_frame (s : State) :
    (updateWant s).number = s.number ∧ (updateWant s).bus = s.bus ∧ (updateWant s).record = s.record ∧
      (updateWant s).control = s.control ∧ (updateWant s).origin = s.origin ∧
      (updateWant s).claim = s.claim ∧ (updateWant s).port = s.port ∧
      (updateWant s).pending = s.pending := by
  simp only [updateWant]
  (repeat' split) <;> simp

@[simp] theorem updateDuty_frame (s : State) :
    (updateDuty s).number = s.number ∧ (updateDuty s).bus = s.bus ∧ (updateDuty s).record = s.record ∧
      (updateDuty s).control = s.control ∧ (updateDuty s).origin = s.origin ∧
      (updateDuty s).claim = s.claim ∧ (updateDuty s).port = s.port ∧
      (updateDuty s).pending = s.pending := by
  simp only [updateDuty]
  (repeat' split) <;> simp

@[simp] theorem updateBeacon_frame (a b : Bool) (s : State) :
    (updateBeacon a b s).number = s.number ∧ (updateBeacon a b s).bus = s.bus ∧
      (updateBeacon a b s).record = s.record ∧ (updateBeacon a b s).control = s.control ∧
      (updateBeacon a b s).origin = s.origin ∧ (updateBeacon a b s).claim = s.claim ∧
      (updateBeacon a b s).port = s.port ∧ (updateBeacon a b s).pending = s.pending := by
  simp only [updateBeacon]
  (repeat' split) <;> simp

@[simp] theorem agendaGrants_frame (s : State) :
    (agendaGrants s).number = s.number ∧ (agendaGrants s).bus = s.bus ∧
      (agendaGrants s).record = s.record ∧ (agendaGrants s).control = s.control ∧
      (agendaGrants s).origin = s.origin ∧ (agendaGrants s).claim = s.claim ∧
      (agendaGrants s).port = s.port ∧ (agendaGrants s).pending = s.pending := by
  simp only [agendaGrants]
  (repeat' split) <;> simp

@[simp] theorem postRetryLimit_frame (p : Option Purpose) (s : State) :
    (postRetryLimit p s).number = s.number ∧ (postRetryLimit p s).bus = s.bus ∧
      (postRetryLimit p s).record = s.record ∧ (postRetryLimit p s).agenda = s.agenda ∧
      (postRetryLimit p s).control = s.control ∧ (postRetryLimit p s).origin = s.origin ∧
      (postRetryLimit p s).claim = s.claim ∧ (postRetryLimit p s).pending = s.pending := by
  simp only [postRetryLimit]
  (repeat' split) <;> simp

/-! ### Records of the origin unit -/

@[simp] theorem changeLine_frame (n : Line) (f : LineRecord → LineRecord) (s : State) :
    (changeLine n f s).number = s.number ∧ (changeLine n f s).bus = s.bus ∧
      (changeLine n f s).record = s.record ∧ (changeLine n f s).agenda = s.agenda ∧
      (changeLine n f s).control = s.control ∧ (changeLine n f s).claim = s.claim ∧
      (changeLine n f s).port = s.port ∧ (changeLine n f s).pending = s.pending := by simp [changeLine]

@[simp] theorem changeRaise_frame (i : RaiseId) (f : RaiseRecord → RaiseRecord) (s : State) :
    (changeRaise i f s).number = s.number ∧ (changeRaise i f s).bus = s.bus ∧
      (changeRaise i f s).record = s.record ∧ (changeRaise i f s).agenda = s.agenda ∧
      (changeRaise i f s).control = s.control ∧ (changeRaise i f s).claim = s.claim ∧
      (changeRaise i f s).port = s.port ∧ (changeRaise i f s).pending = s.pending := by simp [changeRaise]

@[simp] theorem removeRaise_frame (i : RaiseId) (s : State) :
    (removeRaise i s).number = s.number ∧ (removeRaise i s).bus = s.bus ∧
      (removeRaise i s).record = s.record ∧ (removeRaise i s).agenda = s.agenda ∧
      (removeRaise i s).control = s.control ∧ (removeRaise i s).claim = s.claim ∧
      (removeRaise i s).port = s.port ∧ (removeRaise i s).pending = s.pending := by simp [removeRaise]

@[simp] theorem stopServiceTimers_frame (s : State) :
    (stopServiceTimers s).number = s.number ∧ (stopServiceTimers s).bus = s.bus ∧
      (stopServiceTimers s).record = s.record ∧ (stopServiceTimers s).agenda = s.agenda ∧
      (stopServiceTimers s).control = s.control ∧ (stopServiceTimers s).claim = s.claim ∧
      (stopServiceTimers s).port = s.port ∧ (stopServiceTimers s).pending = s.pending := by simp [stopServiceTimers]

@[simp] theorem lineWants_frame (n : Line) (s : State) :
    (lineWants n s).number = s.number ∧ (lineWants n s).bus = s.bus ∧
      (lineWants n s).record = s.record ∧ (lineWants n s).control = s.control ∧
      (lineWants n s).claim = s.claim ∧ (lineWants n s).port = s.port ∧
      (lineWants n s).pending = s.pending := by simp [lineWants]

@[simp] theorem evaluateLine_frame (n : Line) (s : State) :
    (evaluateLine n s).number = s.number ∧ (evaluateLine n s).bus = s.bus ∧
      (evaluateLine n s).record = s.record ∧ (evaluateLine n s).control = s.control ∧
      (evaluateLine n s).claim = s.claim ∧ (evaluateLine n s).port = s.port ∧
      (evaluateLine n s).pending = s.pending := by
  simp only [evaluateLine]
  (repeat' split) <;> simp

@[simp] theorem checkWithdraw_frame (n : Line) (s : State) :
    (checkWithdraw n s).number = s.number ∧ (checkWithdraw n s).bus = s.bus ∧
      (checkWithdraw n s).record = s.record ∧ (checkWithdraw n s).control = s.control ∧
      (checkWithdraw n s).origin = s.origin ∧ (checkWithdraw n s).claim = s.claim ∧
      (checkWithdraw n s).port = s.port ∧ (checkWithdraw n s).pending = s.pending := by
  simp only [checkWithdraw]
  (repeat' split) <;> simp

@[simp] theorem levelActive_frame (n : Line) (s : State) :
    (levelActive n s).number = s.number ∧ (levelActive n s).bus = s.bus ∧
      (levelActive n s).record = s.record ∧ (levelActive n s).control = s.control ∧
      (levelActive n s).claim = s.claim ∧ (levelActive n s).port = s.port ∧
      (levelActive n s).pending = s.pending := by simp [levelActive]

@[simp] theorem levelInactive_frame (n : Line) (s : State) :
    (levelInactive n s).number = s.number ∧ (levelInactive n s).bus = s.bus ∧
      (levelInactive n s).record = s.record ∧ (levelInactive n s).control = s.control ∧
      (levelInactive n s).claim = s.claim ∧ (levelInactive n s).port = s.port ∧
      (levelInactive n s).pending = s.pending := by
  simp only [levelInactive]
  (repeat' split) <;> simp

@[simp] theorem edgeReceived_frame (n : Line) (s : State) :
    (edgeReceived n s).number = s.number ∧ (edgeReceived n s).bus = s.bus ∧
      (edgeReceived n s).record = s.record ∧ (edgeReceived n s).control = s.control ∧
      (edgeReceived n s).claim = s.claim ∧ (edgeReceived n s).port = s.port ∧
      (edgeReceived n s).pending = s.pending := by
  simp only [edgeReceived]
  (repeat' split) <;> simp

@[simp] theorem lineEvent_frame (n : Line) (b : Bool) (s : State) :
    (lineEvent n b s).number = s.number ∧ (lineEvent n b s).bus = s.bus ∧
      (lineEvent n b s).record = s.record ∧ (lineEvent n b s).control = s.control ∧
      (lineEvent n b s).claim = s.claim ∧ (lineEvent n b s).port = s.port ∧
      (lineEvent n b s).pending = s.pending := by
  simp only [lineEvent]
  (repeat' split) <;> simp

@[simp] theorem inputChanges_frame (n : Line) (b : Bool) (s : State) :
    (inputChanges n b s).number = s.number ∧ (inputChanges n b s).bus = s.bus ∧
      (inputChanges n b s).record = s.record ∧ (inputChanges n b s).control = s.control ∧
      (inputChanges n b s).claim = s.claim ∧ (inputChanges n b s).port = s.port ∧
      (inputChanges n b s).pending = s.pending := by
  simp only [inputChanges]
  (repeat' split) <;> simp

@[simp] theorem sourceOffered_frame (x : Source) (h : Handle) (s : State) :
    (sourceOffered x h s).number = s.number ∧ (sourceOffered x h s).bus = s.bus ∧
      (sourceOffered x h s).record = s.record ∧ (sourceOffered x h s).control = s.control ∧
      (sourceOffered x h s).claim = s.claim ∧ (sourceOffered x h s).port = s.port ∧
      (sourceOffered x h s).pending = s.pending := by
  simp only [sourceOffered]
  (repeat' split) <;> simp

@[simp] theorem sourceClaimed_frame (x : Source) (s : State) :
    (sourceClaimed x s).number = s.number ∧ (sourceClaimed x s).bus = s.bus ∧
      (sourceClaimed x s).record = s.record ∧ (sourceClaimed x s).agenda = s.agenda ∧
      (sourceClaimed x s).control = s.control ∧ (sourceClaimed x s).claim = s.claim ∧
      (sourceClaimed x s).port = s.port ∧ (sourceClaimed x s).pending = s.pending := by
  simp only [sourceClaimed]
  (repeat' split) <;> simp

@[simp] theorem sourceReturned_frame (x : Source) (s : State) :
    (sourceReturned x s).number = s.number ∧ (sourceReturned x s).bus = s.bus ∧
      (sourceReturned x s).record = s.record ∧ (sourceReturned x s).control = s.control ∧
      (sourceReturned x s).claim = s.claim ∧ (sourceReturned x s).port = s.port ∧
      (sourceReturned x s).pending = s.pending := by
  simp only [sourceReturned]
  (repeat' split) <;> simp

@[simp] theorem raiseEnds_frame (i : RaiseId) (c : Completion) (s : State) :
    (raiseEnds i c s).number = s.number ∧ (raiseEnds i c s).bus = s.bus ∧
      (raiseEnds i c s).record = s.record ∧ (raiseEnds i c s).agenda = s.agenda ∧
      (raiseEnds i c s).control = s.control ∧ (raiseEnds i c s).claim = s.claim ∧
      (raiseEnds i c s).pending = s.pending := by simp [raiseEnds]

@[simp] theorem rearmLine_frame (n : Line) (s : State) :
    (rearmLine n s).number = s.number ∧ (rearmLine n s).bus = s.bus ∧
      (rearmLine n s).record = s.record ∧ (rearmLine n s).control = s.control ∧
      (rearmLine n s).claim = s.claim ∧ (rearmLine n s).port = s.port ∧
      (rearmLine n s).pending = s.pending := by
  simp only [rearmLine]
  (repeat' split) <;> simp

@[simp] theorem sourceRetires_frame (x : Source) (s : State) :
    (sourceRetires x s).number = s.number ∧ (sourceRetires x s).bus = s.bus ∧
      (sourceRetires x s).record = s.record ∧ (sourceRetires x s).control = s.control ∧
      (sourceRetires x s).claim = s.claim ∧ (sourceRetires x s).pending = s.pending := by
  simp only [sourceRetires]
  (repeat' split) <;> simp

@[simp] theorem sourceWithdrawn_frame (x : Source) (s : State) :
    (sourceWithdrawn x s).number = s.number ∧ (sourceWithdrawn x s).bus = s.bus ∧
      (sourceWithdrawn x s).record = s.record ∧ (sourceWithdrawn x s).control = s.control ∧
      (sourceWithdrawn x s).claim = s.claim ∧ (sourceWithdrawn x s).port = s.port ∧
      (sourceWithdrawn x s).pending = s.pending := by
  simp only [sourceWithdrawn]
  (repeat' split) <;> simp

@[simp] theorem sourceDropped_frame (x : Source) (h : Handle) (s : State) :
    (sourceDropped x h s).number = s.number ∧ (sourceDropped x h s).bus = s.bus ∧
      (sourceDropped x h s).record = s.record ∧ (sourceDropped x h s).agenda = s.agenda ∧
      (sourceDropped x h s).control = s.control ∧ (sourceDropped x h s).claim = s.claim ∧
      (sourceDropped x h s).pending = s.pending := by
  simp only [sourceDropped]
  (repeat' split) <;> simp

@[simp] theorem originReacts_frame (x : Option Sent) (s : State) (c : EntryChange) :
    (originReacts x s c).number = s.number ∧ (originReacts x s c).bus = s.bus ∧
      (originReacts x s c).record = s.record ∧ (originReacts x s c).control = s.control ∧
      (originReacts x s c).claim = s.claim ∧ (originReacts x s c).pending = s.pending := by
  simp only [originReacts]
  (repeat' split) <;> simp

@[simp] theorem offerRaise_frame (s : State) (r : RaiseRecord) :
    (offerRaise s r).number = s.number ∧ (offerRaise s r).bus = s.bus ∧
      (offerRaise s r).record = s.record ∧ (offerRaise s r).control = s.control ∧
      (offerRaise s r).origin = s.origin ∧ (offerRaise s r).claim = s.claim ∧
      (offerRaise s r).port = s.port ∧ (offerRaise s r).pending = s.pending := by
  simp only [offerRaise]
  (repeat' split) <;> simp

@[simp] theorem originDeparts_frame (s : State) :
    (originDeparts s).number = s.number ∧ (originDeparts s).bus = s.bus ∧
      (originDeparts s).record = s.record ∧ (originDeparts s).agenda = s.agenda ∧
      (originDeparts s).control = s.control ∧ (originDeparts s).claim = s.claim ∧
      (originDeparts s).pending = s.pending := by simp [originDeparts]

/-! ### The claim unit -/

@[simp] theorem claimReacts_frame (b : Bool) (r : Record) (cs : List EntryChange) (s : State) :
    (claimReacts b r cs s).number = s.number ∧ (claimReacts b r cs s).bus = s.bus ∧
      (claimReacts b r cs s).record = s.record ∧ (claimReacts b r cs s).agenda = s.agenda ∧
      (claimReacts b r cs s).control = s.control ∧ (claimReacts b r cs s).origin = s.origin ∧
      (claimReacts b r cs s).pending = s.pending := by simp [claimReacts]

@[simp] theorem claimDeparts_frame (s : State) :
    (claimDeparts s).number = s.number ∧ (claimDeparts s).bus = s.bus ∧
      (claimDeparts s).record = s.record ∧ (claimDeparts s).agenda = s.agenda ∧
      (claimDeparts s).control = s.control ∧ (claimDeparts s).origin = s.origin ∧
      (claimDeparts s).pending = s.pending := by simp [claimDeparts]

/-! ### The station state and the bus interface -/

@[simp] theorem markState_frame (n : StationState) (s : State) :
    (markState n s).number = s.number ∧ (markState n s).bus = s.bus ∧
      (markState n s).record = s.record ∧ (markState n s).agenda = s.agenda ∧
      (markState n s).origin = s.origin ∧ (markState n s).claim = s.claim ∧
      (markState n s).pending = s.pending := by simp [markState]

@[simp] theorem leaveState_frame (s : State) :
    (leaveState s).number = s.number ∧ (leaveState s).bus = s.bus ∧ (leaveState s).record = s.record ∧
      (leaveState s).origin = s.origin ∧ (leaveState s).claim = s.claim ∧
      (leaveState s).port = s.port ∧ (leaveState s).pending = s.pending := by
  simp only [leaveState]
  (repeat' split) <;> simp

@[simp] theorem stopObserving_frame (s : State) :
    (stopObserving s).number = s.number ∧ (stopObserving s).record = s.record ∧
      (stopObserving s).control = s.control ∧
      (stopObserving s).origin = s.origin ∧ (stopObserving s).claim = s.claim ∧
      (stopObserving s).port = s.port ∧ (stopObserving s).pending = s.pending := by
  simp only [stopObserving]
  (repeat' split) <;> simp

/-- The idle timer goes on through an attempt in flight and stops with observing (R24, R94). -/
theorem stopObserving_agenda (s : State) :
    (stopObserving s).agenda =
      { s.agenda with idle := if s.bus.attempt = none then none else s.agenda.idle } := by
  unfold stopObserving
  split <;> simp_all [stopIdle]

@[simp] theorem enterOff_frame (s : State) :
    (enterOff s).number = s.number ∧ (enterOff s).record = s.record ∧ (enterOff s).origin = s.origin ∧
      (enterOff s).claim = s.claim ∧ (enterOff s).port = s.port ∧ (enterOff s).pending = s.pending := by simp [enterOff]

@[simp] theorem enterListen_frame (s : State) :
    (enterListen s).number = s.number ∧ (enterListen s).record = s.record ∧
      (enterListen s).agenda = s.agenda ∧ (enterListen s).origin = s.origin ∧
      (enterListen s).claim = s.claim ∧ (enterListen s).port = s.port ∧
      (enterListen s).pending = s.pending := by simp [enterListen]

@[simp] theorem startObserving_frame (s : State) :
    (startObserving s).number = s.number ∧ (startObserving s).record = s.record ∧
      (startObserving s).agenda = s.agenda ∧ (startObserving s).control = s.control ∧
      (startObserving s).origin = s.origin ∧ (startObserving s).claim = s.claim ∧
      (startObserving s).port = s.port ∧ (startObserving s).pending = s.pending := by simp [startObserving]

@[simp] theorem startBackoff_frame (f : FollowOn) (s : State) :
    (startBackoff f s).number = s.number ∧ (startBackoff f s).bus = s.bus ∧
      (startBackoff f s).record = s.record ∧ (startBackoff f s).agenda = s.agenda ∧
      (startBackoff f s).origin = s.origin ∧ (startBackoff f s).claim = s.claim ∧
      (startBackoff f s).port = s.port ∧ (startBackoff f s).pending = s.pending := by simp [startBackoff]

@[simp] theorem updateRequest_frame (s : State) :
    (updateRequest s).number = s.number ∧ (updateRequest s).record = s.record ∧
      (updateRequest s).agenda = s.agenda ∧ (updateRequest s).control = s.control ∧
      (updateRequest s).origin = s.origin ∧ (updateRequest s).claim = s.claim ∧
      (updateRequest s).port = s.port ∧ (updateRequest s).pending = s.pending := by simp [updateRequest]

@[simp] theorem discardAttempt_frame (s : State) :
    (discardAttempt s).number = s.number ∧ (discardAttempt s).record = s.record ∧
      (discardAttempt s).control = s.control ∧ (discardAttempt s).origin = s.origin ∧
      (discardAttempt s).claim = s.claim ∧ (discardAttempt s).port = s.port ∧
      (discardAttempt s).pending = s.pending := by simp [discardAttempt]

end Sys2Proof.Machine
end

