-- ==== Sys2Proof/Laws/Ops.lean ====
section
/-! SUPPORT. What each shared operation does: one lemma for each that says it all, to be cited in place of
unfolding the operation. -/

namespace Sys2Proof.Machine

/-! ### Purposes (R84, R85) -/

/-- An add is taken in at the end of the collection, or absorbed without a trace. -/
theorem addPurpose_cases (a : Aim) (s : State) :
    (takesIn s.control.state a = true ∧ (∀ p ∈ s.agenda.purposes, p.aim.clashes a = false) ∧
      addPurpose a s = s.setAgenda { s.agenda with
        purposes := s.agenda.purposes ++ [⟨a, s.agenda.nextAge, 0, none⟩]
        nextAge := s.agenda.nextAge + 1 }) ∨
    ((takesIn s.control.state a = false ∨ ∃ p ∈ s.agenda.purposes, p.aim.clashes a = true) ∧
      addPurpose a s = s) := by
  by_cases h : (takesIn s.control.state a && !s.agenda.purposes.any (fun p => p.aim.clashes a)) = true
  · left; simp_all [addPurpose]
  · right
    refine ⟨?_, by simp [addPurpose, h]⟩
    by_cases ht : takesIn s.control.state a = true
    · right; simpa [ht] using h
    · left; simpa using ht

/-- After an add that the state takes in, a purpose that clashes with the aim, or has it, is held. -/
theorem addPurpose_held {a : Aim} {s : State} (h : takesIn s.control.state a = true) :
    ∃ p ∈ (addPurpose a s).agenda.purposes, p.aim = a ∨ p.aim.clashes a = true := by
  rcases addPurpose_cases a s with ⟨-, -, e⟩ | ⟨h' | ⟨p, hp, hc⟩, e⟩
  · exact ⟨⟨a, s.agenda.nextAge, 0, none⟩, by rw [e]; simp, .inl rfl⟩
  · simp [h] at h'
  · exact ⟨p, by rw [e]; exact hp, .inr hc⟩

@[simp] theorem mem_dropPurposes {which : Aim → Bool} {s : State} {p : Purpose} :
    p ∈ (dropPurposes which s).agenda.purposes ↔ p ∈ s.agenda.purposes ∧ which p.aim = false := by
  simp [dropPurposes]

/-- Dropping purposes leaves the rest of the agenda. -/
theorem dropPurposes_agenda (which : Aim → Bool) (s : State) :
    (dropPurposes which s).agenda =
      { s.agenda with purposes := s.agenda.purposes.filter (fun p => !which p.aim) } := by
  simp [dropPurposes]

@[simp] theorem emptyAgenda_agenda (s : State) :
    (emptyAgenda s).agenda = { s.agenda with purposes := [] } := by simp [emptyAgenda]

/-! ### Queues and reservations (R158, R159, R161) -/

/-- A fault is appended while there is room, and otherwise dropped with the overflow flag set. -/
theorem postFault_cases (k : FaultKind) (st : Option Station) (sl : Option Slot) (l : Option Line)
    (c : Option DepartureCause) (s : State) :
    (s.port.faults.length < 8 ∧ postFault k st sl l c s = s.setPort { s.port with
      faults := s.port.faults ++ [⟨k, s.port.clock, st, sl, l, s.record.map Record.seq, c⟩] }) ∨
    (8 ≤ s.port.faults.length ∧
      postFault k st sl l c s = s.setPort { s.port with overflow := true }) := by
  by_cases h : s.port.faults.length < 8
  · left; simp [postFault, Config.faultDepth, h]
  · right; exact ⟨by omega, by simp [postFault, Config.faultDepth, h]⟩

@[simp] theorem postCompletions_port (cs : List Completion) (s : State) :
    (postCompletions cs s).port = { s.port with
      completions := s.port.completions ++ cs, reserved := s.port.reserved - cs.length } := by
  simp [postCompletions]

@[simp] theorem reserve_port (s : State) :
    (reserve s).port = { s.port with reserved := s.port.reserved + 1 } := by simp [reserve]

/-! ### Line, raise and grant records -/

/-- Changing one line leaves the others. -/
@[simp] theorem changeLine_lines (n m : Line) (f : LineRecord → LineRecord) (s : State) :
    (changeLine n f s).origin.lines[m] =
      if m = n then f s.origin.lines[n] else s.origin.lines[m] := by
  by_cases h : m = n
  · subst h; simp [changeLine]
  · have hv : n.val ≠ m.val := fun e => h (Fin.ext e.symm)
    simp [changeLine, h, hv]

/-- Changing a line touches nothing but the lines. -/
theorem changeLine_origin (n : Line) (f : LineRecord → LineRecord) (s : State) :
    (changeLine n f s).origin = { s.origin with lines := s.origin.lines.set n.val (f s.origin.lines[n]) } := by
  simp [changeLine]

/-- Changing a raise changes every record of its id. -/
theorem changeRaise_origin (id : RaiseId) (f : RaiseRecord → RaiseRecord) (s : State) :
    (changeRaise id f s).origin = { s.origin with
      raises := s.origin.raises.map (fun r => if r.id = id then f r else r) } := by
  simp [changeRaise]

@[simp] theorem mem_removeRaise {id : RaiseId} {s : State} {r : RaiseRecord} :
    r ∈ (removeRaise id s).origin.raises ↔ r ∈ s.origin.raises ∧ r.id ≠ id := by simp [removeRaise]

/-- The raise record of an id is one of the list. -/
theorem raiseWith_some {s : State} {id : RaiseId} {r : RaiseRecord} (h : raiseWith s id = some r) :
    r ∈ s.origin.raises ∧ r.id = id := by
  unfold raiseWith at h
  exact ⟨List.mem_of_find?_eq_some h, by simpa using List.find?_some h⟩

/-- A line that holds a handle is found as its holder before any raise. -/
theorem holderOf_line {s : State} {h : Handle} {n : Line} (hh : holderOf s h = some (.line n)) :
    s.origin.lines[n].handle = some h := by
  unfold holderOf at hh
  split at hh
  · rename_i m hm
    cases hh
    simpa using List.find?_some hm
  · simp at hh

/-! ### Choosing (R86, R139) -/

/-- The purpose that goes first is one of those held. -/
theorem firstPurpose_mem {ps : List Purpose} {p : Purpose} (h : firstPurpose ps = some p) : p ∈ ps := by
  induction ps generalizing p with
  | nil => simp [firstPurpose] at h
  | cons q qs ih =>
    simp only [firstPurpose] at h
    split at h
    · simp_all
    · rename_i x hx
      split at h <;> simp_all

@[simp] theorem firstPurpose_none {ps : List Purpose} : firstPurpose ps = none ↔ ps = [] := by
  cases ps with
  | nil => simp [firstPurpose]
  | cons q qs =>
    simp only [firstPurpose]
    split <;> (try split) <;> simp

/-- The entry the claim unit selects is one of the eligible entries. -/
theorem bestEntry_mem {es : List Entry} {e : Entry} (h : bestEntry es = some e) : e ∈ es := by
  induction es generalizing e with
  | nil => simp [bestEntry] at h
  | cons x xs ih =>
    simp only [bestEntry] at h
    split at h
    · simp_all
    · rename_i b hb
      split at h <;> simp_all

/-- The selected entry has the highest priority of all. -/
theorem bestEntry_max {es : List Entry} {e : Entry} (h : bestEntry es = some e) :
    ∀ x ∈ es, x.priority ≤ e.priority := by
  induction es generalizing e with
  | nil => simp
  | cons y ys ih =>
    simp only [bestEntry] at h
    cases hb : bestEntry ys with
    | none =>
      simp only [hb] at h
      have : ys = [] := by
        cases ys with
        | nil => rfl
        | cons z zs =>
          simp only [bestEntry] at hb
          split at hb <;> (try split at hb) <;> simp at hb
      cases h
      simp [this]
    | some b =>
      simp only [hb] at h
      have ihb := ih hb
      intro x hx
      split at h <;> cases h <;> rcases List.mem_cons.mp hx with rfl | hx
      · rename_i hlt; bv_omega
      · exact ihb x hx
      · exact BitVec.le_refl _
      · have := ihb x hx; rename_i hlt; bv_omega

/-! ### The station's place (R97) -/

@[simp] theorem markState_control (n : StationState) (s : State) :
    (markState n s).control = { s.control with state := n } := by simp [markState]

@[simp] theorem markState_port (n : StationState) (s : State) :
    (markState n s).port = { s.port with stateCause := true } := by simp [markState]

/-- The request line after it was worked out anew (R25). -/
theorem updateRequest_request (s : State) :
    (updateRequest s).bus = { s.bus with
      request := s.bus.observing && !s.bus.awaitRest && !s.bus.attempt.any (fun a => a.driven.isSome) &&
        wantsBus s
      requestChanged := s.bus.requestChanged || requestDue s != s.bus.request } := by
  simp [updateRequest, requestDue]

/-- A request line that has not changed is sampled as it stands; one that has, as the close says (R26). -/
theorem sampledOwn_cases (s : State) (own : Bool) :
    s.bus.requestChanged = false ∧ sampledOwn s own = s.bus.request ∨
    s.bus.requestChanged = true ∧ sampledOwn s own = own := by
  cases h : s.bus.requestChanged <;> simp [sampledOwn, h]

/-- The faults about the station's own place: DESYNC before JOIN_TIMEOUT, each if it is due (R163). -/
theorem postOwnPlace_cases (diverged lost : Bool) (s : State) :
    postOwnPlace diverged lost s =
      match diverged, lost with
      | false, false => s
      | true, false => postFault .desync none none none none s
      | false, true => postFault .joinTimeout none none none none s
      | true, true =>
        postFault .joinTimeout none none none none (postFault .desync none none none none s) := by
  cases diverged <;> cases lost <;> rfl

end Sys2Proof.Machine
end

