-- ==== Sys2Proof/Laws/HostSide.lean ====
section
/-! SUPPORT. The station number, the commands that wait, and what the host port keeps for the host alone
(the window, the enables, the clock and the configuration store) outlive everything that an attempt, a
timer or a change of station state brings. -/

namespace Sys2Proof.Machine

/-- What only the host's own commands and a reset change is the same in both states. -/
structure SameHostSide (s t : State) : Prop where
  number : t.number = s.number
  pending : t.pending = s.pending
  command : t.port.command = s.port.command
  arg0 : t.port.arg0 = s.port.arg0
  arg1 : t.port.arg1 = s.port.arg1
  arg2 : t.port.arg2 = s.port.arg2
  arg3 : t.port.arg3 = s.port.arg3
  result0 : t.port.result0 = s.port.result0
  result1 : t.port.result1 = s.port.result1
  result2 : t.port.result2 = s.port.result2
  result3 : t.port.result3 = s.port.result3
  store : t.port.store = s.port.store
  mask : t.port.mask = s.port.mask
  clock : t.port.clock = s.port.clock

namespace SameHostSide

@[simp] theorem refl (s : State) : SameHostSide s s := by constructor <;> rfl

theorem trans {s t u : State} (h : SameHostSide s t) (k : SameHostSide t u) : SameHostSide s u where
  number := k.number.trans h.number
  pending := k.pending.trans h.pending
  command := k.command.trans h.command
  arg0 := k.arg0.trans h.arg0
  arg1 := k.arg1.trans h.arg1
  arg2 := k.arg2.trans h.arg2
  arg3 := k.arg3.trans h.arg3
  result0 := k.result0.trans h.result0
  result1 := k.result1.trans h.result1
  result2 := k.result2.trans h.result2
  result3 := k.result3.trans h.result3
  store := k.store.trans h.store
  mask := k.mask.trans h.mask
  clock := k.clock.trans h.clock

/-- An operation that leaves number, queue and port keeps the host's side. -/
theorem of_port {s t : State} (hn : t.number = s.number) (hp : t.pending = s.pending)
    (hq : t.port = s.port) : SameHostSide s t := by
  constructor <;> simp [hn, hp, hq]

/-- Going on with an operation that keeps the host's side changes nothing about it. -/
theorem onward {s t u : State} (h : SameHostSide t u) : SameHostSide s u ↔ SameHostSide s t :=
  ⟨fun k => k.trans ⟨h.number.symm, h.pending.symm, h.command.symm, h.arg0.symm, h.arg1.symm,
    h.arg2.symm, h.arg3.symm, h.result0.symm, h.result1.symm, h.result2.symm, h.result3.symm,
    h.store.symm, h.mask.symm, h.clock.symm⟩, fun k => k.trans h⟩

/-- A chain of operations keeps the host's side when each does. -/
theorem foldl {α : Type} {f : State → α → State} (h : ∀ s a, SameHostSide s (f s a)) (l : List α)
    (s : State) : SameHostSide s (l.foldl f s) := by
  induction l generalizing s with
  | nil => exact refl s
  | cons a l ih => exact (h s a).trans (ih (f s a))

variable {s t : State}

/-! ### Blocks replaced -/

@[simp] theorem setBus (x : Bus) : SameHostSide s (t.setBus x) ↔ SameHostSide s t :=
  onward (.of_port rfl rfl rfl)
@[simp] theorem setRecord (x : Option Record) : SameHostSide s (t.setRecord x) ↔ SameHostSide s t :=
  onward (.of_port rfl rfl rfl)
@[simp] theorem setAgenda (x : Agenda) : SameHostSide s (t.setAgenda x) ↔ SameHostSide s t :=
  onward (.of_port rfl rfl rfl)
@[simp] theorem setControl (x : Control) : SameHostSide s (t.setControl x) ↔ SameHostSide s t :=
  onward (.of_port rfl rfl rfl)
@[simp] theorem setOrigin (x : Origin) : SameHostSide s (t.setOrigin x) ↔ SameHostSide s t :=
  onward (.of_port rfl rfl rfl)
@[simp] theorem setClaim (x : Claim) : SameHostSide s (t.setClaim x) ↔ SameHostSide s t :=
  onward (.of_port rfl rfl rfl)

/-! ### Shared operations -/

@[simp] theorem postFault (k : FaultKind) (a : Option Station) (b : Option Slot) (c : Option Line)
    (d : Option DepartureCause) :
    SameHostSide s (Machine.postFault k a b c d t) ↔ SameHostSide s t := by
  refine onward ?_
  rcases postFault_cases k a b c d t with ⟨-, e⟩ | ⟨-, e⟩ <;> rw [e] <;> constructor <;> rfl

@[simp] theorem postCompletions (cs : List Completion) :
    SameHostSide s (Machine.postCompletions cs t) ↔ SameHostSide s t :=
  onward (by constructor <;> rfl)

@[simp] theorem addPurpose (a : Aim) : SameHostSide s (Machine.addPurpose a t) ↔ SameHostSide s t :=
  onward (.of_port (by simp) (by simp) (by simp))

@[simp] theorem dropPurposes (p : Aim → Bool) :
    SameHostSide s (Machine.dropPurposes p t) ↔ SameHostSide s t := onward (.of_port rfl rfl rfl)

@[simp] theorem emptyAgenda : SameHostSide s (Machine.emptyAgenda t) ↔ SameHostSide s t :=
  onward (.of_port rfl rfl rfl)

@[simp] theorem dropSent : SameHostSide s (Machine.dropSent t) ↔ SameHostSide s t :=
  onward (.of_port (by simp) (by simp) (by simp))

@[simp] theorem countSent (took : Bool) : SameHostSide s (Machine.countSent took t) ↔ SameHostSide s t :=
  onward (.of_port (by simp) (by simp) (by simp))

@[simp] theorem clearSent : SameHostSide s (Machine.clearSent t) ↔ SameHostSide s t :=
  onward (.of_port rfl rfl rfl)

@[simp] theorem restartIdle : SameHostSide s (Machine.restartIdle t) ↔ SameHostSide s t :=
  onward (.of_port rfl rfl rfl)

@[simp] theorem updateWant : SameHostSide s (Machine.updateWant t) ↔ SameHostSide s t :=
  onward (.of_port (by simp) (by simp) (by simp))

@[simp] theorem updateDuty : SameHostSide s (Machine.updateDuty t) ↔ SameHostSide s t :=
  onward (.of_port (by simp) (by simp) (by simp))

@[simp] theorem updateBeacon (a b : Bool) :
    SameHostSide s (Machine.updateBeacon a b t) ↔ SameHostSide s t :=
  onward (.of_port (by simp) (by simp) (by simp))

@[simp] theorem updateRequest : SameHostSide s (Machine.updateRequest t) ↔ SameHostSide s t :=
  onward (.of_port rfl rfl rfl)

@[simp] theorem postRetryLimit (p : Option Purpose) :
    SameHostSide s (Machine.postRetryLimit p t) ↔ SameHostSide s t := by
  cases p <;> simp [Machine.postRetryLimit]

@[simp] theorem postOwnPlace (a b : Bool) :
    SameHostSide s (Machine.postOwnPlace a b t) ↔ SameHostSide s t := by
  cases a <;> cases b <;> simp [Machine.postOwnPlace]

@[simp] theorem postDepartures (ds : List (Station × DepartureCause)) :
    SameHostSide s (Machine.postDepartures ds t) ↔ SameHostSide s t :=
  onward (.foldl (fun _ _ => (postFault ..).mpr (.refl _)) _ t)

@[simp] theorem postDuplicate (b : Bool) :
    SameHostSide s (Machine.postDuplicate b t) ↔ SameHostSide s t := by
  unfold Machine.postDuplicate; split <;> simp

/-! ### The origin unit and the claim unit -/

@[simp] theorem changeLine (n : Line) (f : LineRecord → LineRecord) :
    SameHostSide s (Machine.changeLine n f t) ↔ SameHostSide s t := onward (.of_port rfl rfl rfl)

@[simp] theorem changeRaise (id : RaiseId) (f : RaiseRecord → RaiseRecord) :
    SameHostSide s (Machine.changeRaise id f t) ↔ SameHostSide s t := onward (.of_port rfl rfl rfl)

@[simp] theorem lineWants (n : Line) : SameHostSide s (Machine.lineWants n t) ↔ SameHostSide s t := by
  simp [Machine.lineWants]

@[simp] theorem evaluateLine (n : Line) :
    SameHostSide s (Machine.evaluateLine n t) ↔ SameHostSide s t := by
  unfold Machine.evaluateLine; split <;> simp

@[simp] theorem checkWithdraw (n : Line) :
    SameHostSide s (Machine.checkWithdraw n t) ↔ SameHostSide s t := by
  simp only [Machine.checkWithdraw]; (repeat' split) <;> simp

@[simp] theorem raiseEnds (id : RaiseId) (c : Completion) :
    SameHostSide s (Machine.raiseEnds id c t) ↔ SameHostSide s t := by
  simp [Machine.raiseEnds, Machine.removeRaise]

@[simp] theorem rearmLine (n : Line) : SameHostSide s (Machine.rearmLine n t) ↔ SameHostSide s t := by
  simp only [Machine.rearmLine]; (repeat' split) <;> simp

@[simp] theorem originReacts (sent : Option Sent) (c : EntryChange) :
    SameHostSide s (Machine.originReacts sent t c) ↔ SameHostSide s t := by
  have h₁ : ∀ x h, SameHostSide s (sourceOffered x h t) ↔ SameHostSide s t := by
    intro x h; cases x <;> simp only [sourceOffered] <;> (try split) <;> simp
  have h₂ : ∀ x, SameHostSide s (sourceClaimed x t) ↔ SameHostSide s t := by
    intro x; cases x <;> simp [sourceClaimed]
  have h₃ : ∀ x, SameHostSide s (sourceReturned x t) ↔ SameHostSide s t := by
    intro x; cases x <;> simp [sourceReturned]
  have h₄ : ∀ x, SameHostSide s (sourceRetires x t) ↔ SameHostSide s t := by
    intro x; cases x <;> simp [sourceRetires]
  have h₅ : ∀ x, SameHostSide s (sourceWithdrawn x t) ↔ SameHostSide s t := by
    intro x; cases x <;> simp [sourceWithdrawn]
  have h₆ : ∀ x h, SameHostSide s (sourceDropped x h t) ↔ SameHostSide s t := by
    intro x h; cases x <;> simp [sourceDropped]
  simp only [Machine.originReacts]
  (repeat' split) <;> simp only [h₁, h₂, h₃, h₄, h₅, h₆]

@[simp] theorem originReacts_all (sent : Option Sent) (cs : List EntryChange) :
    SameHostSide s (cs.foldl (Machine.originReacts sent) t) ↔ SameHostSide s t :=
  onward (.foldl (fun _ _ => (originReacts ..).mpr (.refl _)) _ t)

@[simp] theorem originEnters : SameHostSide s (Machine.originEnters t) ↔ SameHostSide s t := by
  refine onward (.trans (.foldl (fun u r => ?_) _ t) (.foldl (fun _ _ => by simp) _ _))
  unfold offerRaise
  split <;> simp

@[simp] theorem claimReacts (b : Bool) (r : Record) (cs : List EntryChange) :
    SameHostSide s (Machine.claimReacts b r cs t) ↔ SameHostSide s t := by simp [Machine.claimReacts]

@[simp] theorem selfDeparts : SameHostSide s (Machine.selfDeparts t) ↔ SameHostSide s t := by
  simp [Machine.selfDeparts, originDeparts, claimDeparts]

/-! ### The membership controller -/

@[simp] theorem leaveState : SameHostSide s (Machine.leaveState t) ↔ SameHostSide s t :=
  onward (.of_port (by simp) (by simp) (by simp))

@[simp] theorem markState (n : StationState) : SameHostSide s (Machine.markState n t) ↔ SameHostSide s t :=
  onward (by constructor <;> rfl)

@[simp] theorem enterState (n : StationState) :
    SameHostSide s (Machine.enterState n t) ↔ SameHostSide s t := by
  have h : SameHostSide s (enterOff t) ↔ SameHostSide s t :=
    onward (.of_port (by simp) (by simp) (by simp))
  cases n <;> simp [Machine.enterState, enterListen, stopServiceTimers, h]

@[simp] theorem changeState (n : StationState) :
    SameHostSide s (Machine.changeState n t) ↔ SameHostSide s t := by simp [Machine.changeState]

@[simp] theorem enterDeparting (c : DepartingCause) :
    SameHostSide s (Machine.enterDeparting c t) ↔ SameHostSide s t := by simp [Machine.enterDeparting]

@[simp] theorem listenWithBackoff :
    SameHostSide s (Machine.listenWithBackoff t) ↔ SameHostSide s t := by
  simp [Machine.listenWithBackoff, startBackoff]

@[simp] theorem joinTimedOut : SameHostSide s (Machine.joinTimedOut t) ↔ SameHostSide s t := by
  simp [Machine.joinTimedOut]

@[simp] theorem leaveEnds : SameHostSide s (Machine.leaveEnds t) ↔ SameHostSide s t := by
  simp [Machine.leaveEnds]

@[simp] theorem ownDeparture (c : DepartureCause) :
    SameHostSide s (Machine.ownDeparture c t) ↔ SameHostSide s t := by
  unfold Machine.ownDeparture; (repeat' split) <;> simp

@[simp] theorem settleState (a b c d : Bool) :
    SameHostSide s (Machine.settleState a b c d t) ↔ SameHostSide s t := by
  simp only [Machine.settleState]
  generalize (if (t.control.state == .leaving) = true then DepartingCause.leave else .desync) = x
  generalize (if (t.control.state == .leaving) = true then DepartingCause.leave else .restart) = y
  (repeat' split) <;> simp

@[simp] theorem memberJudges (a : Attempt) (r : Record) :
    SameHostSide s (Machine.memberJudges a r t) ↔ SameHostSide s t := by
  simp only [Machine.memberJudges]
  split
  · simp
  · simp only [updateWant, updateDuty, settleState, updateBeacon, postRetryLimit, originReacts_all,
      claimReacts]
    (repeat' split) <;> simp

@[simp] theorem replyHeard (f : Frame) (v : Verdict) (c : Nat) (p : Params) :
    SameHostSide s (Machine.replyHeard f v c p t) ↔ SameHostSide s t := by
  cases v <;> simp [Machine.replyHeard, startBackoff]

@[simp] theorem attemptObserved (a : Attempt) :
    SameHostSide s (Machine.attemptObserved a t) ↔ SameHostSide s t := by
  have h₁ : SameHostSide s (departingEnds a t) ↔ SameHostSide s t := by
    simp only [departingEnds]; (repeat' split) <;> simp
  have h₂ : SameHostSide s (foundingEnds a t) ↔ SameHostSide s t := by
    simp only [foundingEnds]; (repeat' split) <;> simp
  have h₃ : SameHostSide s (joiningEnds a t) ↔ SameHostSide s t := by
    simp only [joiningEnds]; (repeat' split) <;> simp
  have h₄ : ∀ h, SameHostSide s (listenObserves h t) ↔ SameHostSide s t := by
    intro h; simp only [listenObserves]; (repeat' split) <;> simp
  simp only [Machine.attemptObserved]
  (repeat' split) <;> simp [h₁, h₂, h₃, h₄]

/-- The end of an observed attempt leaves the host's side as it was. -/
@[simp] theorem attemptEnds (ws : List Word16) (a : Attempt) :
    SameHostSide s (Machine.attemptEnds ws a t) ↔ SameHostSide s t := by
  simp only [Machine.attemptEnds, updateRequest]
  split <;> simp

end SameHostSide

end Sys2Proof.Machine
end

