-- ==== Sys2Proof/Laws/PerInstr.lean ====
section
/-! SUPPORT. What holds of every command as syntax, one lemma for each constructor. -/

/-! No row of the opcode table gives bits, so no word spells the command. -/

namespace Sys2Proof.Laws.NoWordSpells

/-- No word of any length is read as this command. -/
def Statement (i : Instr) : Prop := ∀ nbits w : Nat, decodeTableWord nbits w ≠ some i

theorem powerOnReset (n : Station) : Statement (.powerOnReset n) := fun _ _ h => nomatch h
theorem set : Statement (.set) := fun _ _ h => nomatch h
theorem start : Statement (.start) := fun _ _ h => nomatch h
theorem restart : Statement (.restart) := fun _ _ h => nomatch h
theorem leave : Statement (.leave) := fun _ _ h => nomatch h
theorem pause : Statement (.pause) := fun _ _ h => nomatch h
theorem resume : Statement (.resume) := fun _ _ h => nomatch h
theorem readGrant : Statement (.readGrant) := fun _ _ h => nomatch h
theorem finish : Statement (.finish) := fun _ _ h => nomatch h
theorem raise : Statement (.raise) := fun _ _ h => nomatch h
theorem enableLine : Statement (.enableLine) := fun _ _ h => nomatch h
theorem readCompletion : Statement (.readCompletion) := fun _ _ h => nomatch h
theorem readFault : Statement (.readFault) := fun _ _ h => nomatch h
theorem inspect : Statement (.inspect) := fun _ _ h => nomatch h
theorem status : Statement (.status) := fun _ _ h => nomatch h
theorem unknownCommand (c : Word32) : Statement (.unknownCommand c) := fun _ _ h => nomatch h
theorem irqMaskWrite (v : Word32) : Statement (.irqMaskWrite v) := fun _ _ h => nomatch h
theorem windowWrite (l : Fin 16) (v : Word32) : Statement (.windowWrite l v) := fun _ _ h => nomatch h
theorem eventLineChange (n : Line) (b : Bool) : Statement (.eventLineChange n b) := fun _ _ h => nomatch h
theorem busAtRest : Statement (.busAtRest) := fun _ _ h => nomatch h
theorem arbitrationOpen (m : StationSet) : Statement (.arbitrationOpen m) := fun _ _ h => nomatch h
theorem arbitrationClose (m : Sampling) : Statement (.arbitrationClose m) := fun _ _ h => nomatch h
theorem frameEnd (ws : List Word16) : Statement (.frameEnd ws) := fun _ _ h => nomatch h
theorem attemptEnd (a b c d : Word16) : Statement (.attemptEnd a b c d) := fun _ _ h => nomatch h
theorem attemptBroken (ws : List Word16) : Statement (.attemptBroken ws) := fun _ _ h => nomatch h
theorem idleTimerExpiry : Statement (.idleTimerExpiry) := fun _ _ h => nomatch h
theorem departingWaitExpiry : Statement (.departingWaitExpiry) := fun _ _ h => nomatch h
theorem quietTimerExpiry : Statement (.quietTimerExpiry) := fun _ _ h => nomatch h
theorem joinReplyTimerExpiry : Statement (.joinReplyTimerExpiry) := fun _ _ h => nomatch h
theorem backoffTimerExpiry : Statement (.backoffTimerExpiry) := fun _ _ h => nomatch h
theorem setAsideTimerExpiry (n : Nat) : Statement (.setAsideTimerExpiry n) := fun _ _ h => nomatch h
theorem serviceTimerExpiry (x : Source) : Statement (.serviceTimerExpiry x) := fun _ _ h => nomatch h

end Sys2Proof.Laws.NoWordSpells
end

