-- ==== Sys2Proof/Laws/Sets.lean ====
section
/-! SUPPORT. Sets of stations, and the entry a slot or a handle names: one lemma for each operation that
says all it does. -/

namespace Sys2Proof.Machine

@[simp] theorem setHas_one (n k : Station) : setHas (setOne n) k = decide (k = n) := by
  revert n k; decide

@[simp] theorem setHas_add (m : StationSet) (n k : Station) :
    setHas (setAdd m n) k = (setHas m k || decide (k = n)) := by
  have h := setHas_one n k
  simp only [setHas] at h
  simp only [setHas, setAdd, BitVec.getLsbD_or, h]

@[simp] theorem setHas_drop (m : StationSet) (n k : Station) :
    setHas (setDrop m n) k = (setHas m k && !decide (k = n)) := by
  have h := setHas_one n k
  simp only [setHas] at h
  simp only [setHas, setDrop, BitVec.getLsbD_and, BitVec.getLsbD_not, h, k.isLt, decide_true,
    Bool.true_and]

/-- The empty set holds no station. -/
@[simp] theorem setHas_zero (k : Station) : setHas 0#16 k = false := by simp [setHas]

/-- Two sets that hold the same stations are one. -/
theorem set_ext {m m' : StationSet} (h : ∀ n : Station, setHas m n = setHas m' n) : m = m' := by
  apply BitVec.eq_of_getLsbD_eq
  intro i hi
  exact h ⟨i, hi⟩

/-- A set with no station is the empty set. -/
theorem set_eq_zero {m : StationSet} : m = 0 ↔ ∀ n : Station, setHas m n = false := by
  constructor
  · rintro rfl n; simp
  · intro h; apply set_ext; intro n; simp [h n]

@[simp] theorem mem_setList {m : StationSet} {n : Station} : n ∈ setList m ↔ setHas m n = true := by
  simp [setList]

/-- The stations of a set stand in rising order. -/
theorem setList_sorted (m : StationSet) : (setList m).Pairwise (· < ·) := by
  unfold setList
  exact (List.pairwise_lt_finRange 16).filter _

/-- What `entryAt` answers is an entry of the table in that slot. -/
theorem entryAt_some {r : Record} {k : Slot} {e : Entry} (h : entryAt r k = some e) :
    e ∈ r.entries ∧ e.slot = k := by
  unfold entryAt at h
  exact ⟨List.mem_of_find?_eq_some h, by simpa using List.find?_some h⟩

@[simp] theorem entryAt_none {r : Record} {k : Slot} :
    entryAt r k = none ↔ ∀ e ∈ r.entries, e.slot ≠ k := by simp [entryAt]

/-- Where the order list holds each slot once, the entry of a slot is the one that lies in it (R12). -/
theorem entryAt_iff {r : Record} (ho : (r.entries.map Entry.slot).Nodup) {k : Slot} {e : Entry} :
    entryAt r k = some e ↔ e ∈ r.entries ∧ e.slot = k := by
  constructor
  · exact entryAt_some
  · rintro ⟨he, rfl⟩
    cases hf : entryAt r e.slot with
    | none => exact absurd rfl (entryAt_none.mp hf e he)
    | some e' =>
      obtain ⟨he', hs⟩ := entryAt_some hf
      rw [List.inj_on_of_nodup_map ho he' he hs]

/-- The entry a handle names (R6). -/
theorem entryNamed_iff {r : Record} (ho : (r.entries.map Entry.slot).Nodup) {h : Handle} {e : Entry} :
    entryNamed r h = some e ↔ e ∈ r.entries ∧ e.slot = h.slot ∧ e.tag = h.tag := by
  simp [entryNamed, Option.filter_eq_some_iff, entryAt_iff ho, and_assoc]

/-- Changing the entry of a slot keeps the order list when the slot of the entry stays (R12). -/
@[simp] theorem changeEntry_orderList (r : Record) (k : Slot) (f : Entry → Entry)
    (hf : ∀ e, (f e).slot = e.slot) : (changeEntry r k f).entries.map Entry.slot = r.entries.map Entry.slot := by
  simp only [changeEntry, List.map_map]
  refine List.map_congr_left fun e _ => ?_
  simp only [Function.comp]
  split <;> simp [hf]

/-- Removing the entry of a slot closes the order list up (R12). -/
@[simp] theorem removeEntry_orderList (r : Record) (k : Slot) :
    (removeEntry r k).entries.map Entry.slot = (r.entries.map Entry.slot).filter (· != k) := by
  simp [removeEntry, List.filter_map, Function.comp_def]

end Sys2Proof.Machine
end

