-- ==== Sys2Proof/Laws/Spelled.lean ====
section
/-! SUPPORT. The tables that Safety.lean spells out beside the model's own functions: where they agree, each
lemma lets a proof pass from the statement's words to the operation's. -/

namespace Sys2Proof.Machine

/-- What may not be held beside an aim is what counts as the same purpose (R84). -/
theorem clashes_iff (a b : Aim) : a.clashes b = true ↔ a.heldOnce = b.heldOnce := by
  cases a <;> cases b <;> simp [Aim.clashes, Aim.heldOnce]

theorem offerOf_eq (x : Source) : offerOf x = Aim.isOfferOf x := by
  funext a; cases a <;> rfl

theorem withdrawOf_eq (h : Handle) (n : Line) :
    withdrawOf h = fun a => a.clashes (.withdraw h n) := by
  funext a; cases a <;> rfl

theorem revokeOf_eq (h : Handle) (c : Station) (x : Source) :
    revokeOf h = fun a => a.clashes (.revoke h c x) := by
  funext a; cases a <;> rfl

/-- An add that the state takes in is the agenda's gain, with any word for the same kind, handle and source that
says when two aims clash (R84, R85). -/
theorem addPurpose_gains {a : Aim} {s : State} {same : Aim → Bool} (h : takesIn s.control.state a = true)
    (hs : ∀ p ∈ s.agenda.purposes, same p.aim = p.aim.clashes a) :
    addPurpose a s = s.setAgenda (s.agenda.gains same a) := by
  have e : s.agenda.purposes.any (fun p => same p.aim) = s.agenda.purposes.any (fun p => p.aim.clashes a) := by
    rw [Bool.eq_iff_iff, List.any_eq_true, List.any_eq_true]
    exact exists_congr fun p => and_congr_right fun hp => by rw [hs p hp]
  unfold addPurpose Agenda.gains
  rw [e]
  split <;> rename_i hc
  · rw [if_neg (by simp_all)]
  · rw [if_pos (by simpa [h] using hc)]; rfl

theorem judges_iff (s : State) : s.control.state.judges = true ↔ s.judging := by
  unfold State.judging
  cases s.control.state <;> simp [StationState.judges]

theorem isJoiner_iff (n : Station) (r : Record) : isJoiner n r = true ↔ JoinsIn n r := by
  unfold isJoiner JoinsIn
  cases r.join <;> simp

theorem isLevel_iff (m : LineMode) : m.isLevel = true ↔ m = .levelHigh ∨ m = .levelLow := by
  cases m <;> simp [LineMode.isLevel]

theorem faultKindNumber_eq (k : FaultKind) : faultKindNumber k = k.code := by cases k <;> rfl

theorem causeNumber_eq (c : Option DepartureCause) : causeNumber c = causeCode c := by
  rcases c with _ | _ | _ | _ <;> rfl

theorem stateNumber_eq (x : StationState) : stateNumber x = stateCode x := by cases x <;> rfl

theorem driven_eq (a : Answer) : a.driven = fieldBits a := by cases a <;> rfl

theorem stationBits_eq (n : Station) : stationBits n = BitVec.ofNat 4 n.val := by
  simp [stationBits]

theorem slotBits_eq (k : Slot) : slotBits k = BitVec.ofNat 5 k.val := by
  simp [slotBits]

/-- The respondent to a joiner is the lowest-numbered member other than the joiner (R16). -/
theorem lowestOther_iff {m : StationSet} {n p : Station} :
    lowestOther m n = some p ↔ m.getLsbD p.val = true ∧ p ≠ n ∧
      ∀ q : Station, m.getLsbD q.val = true → q ≠ n → p ≤ q := by
  have hs := setList_sorted m
  have hmem : ∀ q, q ∈ setList m ↔ m.getLsbD q.val = true := by simp [setList, setHas]
  rw [lowestOther, List.find?_eq_some_iff_append]
  constructor
  · rintro ⟨hp, as, bs, e, has⟩
    rw [e, List.pairwise_append] at hs
    refine ⟨(hmem p).mp (by simp [e]), by simpa using hp, fun q hq hn => ?_⟩
    have : q ∈ as ++ p :: bs := e ▸ (hmem q).mpr hq
    rcases List.mem_append.mp this with h | h
    · exact absurd (by simpa using has q h) hn
    · rcases List.mem_cons.mp h with rfl | h
      · exact le_refl q
      · exact le_of_lt ((List.pairwise_cons.mp hs.2.1).1 q h)
  · rintro ⟨hp, hn, hle⟩
    obtain ⟨as, bs, e⟩ := List.append_of_mem ((hmem p).mpr hp)
    refine ⟨by simpa using hn, as, bs, e, fun q hq => ?_⟩
    rw [e, List.pairwise_append] at hs
    by_contra hqn
    have hlt : q < p := hs.2.2 q hq p (by simp)
    exact absurd (hle q ((hmem q).mp (by simp [e, hq])) (by simpa using hqn)) (not_le.mpr hlt)

end Sys2Proof.Machine
end

