-- ==== Sys2Proof/Tests/Slice0.lean ====
section
/-! SUPPORT. Tests of one step each, their expected results taken from the manual's rules and worked
examples; the refusals of `wellFormed`; and, for each statement with hypotheses, states and operands that
meet them (theorems `witness_…`). -/

namespace Sys2Proof.Tests

open Sys2Proof.Machine

set_option Elab.async false

/-! ### Helpers -/

/-- The state a command leaves. -/
def run (c : Instr) (s : State) : State :=
  match exec c s with
  | .next t => t
  | .fault f => nomatch f
  | .refused _ => s

/-- The parameters of the default configuration (R155). -/
def params : Params := ⟨8, 3, 8, 3, 4⟩

/-- Station 2's own entry, OFFERED. -/
def own : Entry := ⟨3, 90, 2, 7, 4, 0x0224, none, 0, false, none⟩
/-- An entry of station 5 that station 2 has claimed. -/
def mine : Entry := ⟨0, 95, 5, 8, 1, 0x0004, some 2, 2, false, some 77⟩
/-- An entry of station 9, OFFERED to station 2. -/
def wanted : Entry := ⟨7, 96, 9, 9, 6, 0x0004, none, 0, false, some 5⟩

/-- A group of stations 2, 5 and 9 at sequence 100. -/
def group : Record := ⟨0x0224, Vector.replicate 16 0, 100, params, [own, mine, wanted], none⟩

/-- The group with station 9 as joiner. -/
def joining9 (v : Verdict) (ph : Phase) (cur exp : Nat) : Record :=
  { group with join := some ⟨9, 2, v, ph, cur, exp, []⟩ }

/-- Station 2 in a station state, with nothing under way. -/
def at_ (st : StationState) : State :=
  { State.reset with
    number := 2
    bus := { Bus.reset with
      pointer := 3, learned := true, observing := st != .offline && st != .isolated }
    record := if st ∈ [.syncing, .member, .leaving, .departing] then some group else none
    control := { Control.reset with
      state := st
      cause := if st = .departing then some .desync else none
      quiet := if st = .listen then some 4000 else none }
    port := { Port.reset with store := { Store.reset with locked := st != .offline } } }

/-- A state with other argument words. -/
def args (s : State) (a b c d : Word32) : State :=
  s.setPort { s.port with arg0 := a, arg1 := b, arg2 := c, arg3 := d }

/-- A state with every reservation taken. -/
def full (s : State) : State := s.setPort { s.port with reserved := 16 }

/-- A state with one line record in place of EV1's. -/
def line1 (l : LineRecord) (s : State) : State := changeLine 1 (fun _ => l) s

/-- A level line that is enabled. -/
def level : LineRecord :=
  { LineRecord.reset with enabled := true, targets := 0x0020, state := .idle, timeout := 40 }

/-- A raise record that has been offered in slot 3. -/
def raised : RaiseRecord := ⟨4, 7, 4, 0x0224, 1, 0, .offered, some ⟨3, 90⟩, none⟩

/-- A purpose with count 0. -/
def aim (a : Aim) (age : Nat) : Purpose := ⟨a, age, 0, none⟩

/-- A state that holds these purposes, the sent one first if one was sent. -/
def holding (ps : List Purpose) (sent : Option Purpose) (s : State) : State :=
  s.setAgenda { s.agenda with purposes := ps, nextAge := 9, sent := sent.map (fun p => ⟨p, none⟩) }

/-- A frame of a station with the head of the group. -/
def frame (n : Station) (b : Body) : Frame := ⟨n, 100, 0x0224, b⟩

/-- An attempt that this station receives. -/
def hears (s : State) (f : Frame) : Attempt :=
  { newAttempt s (setOne f.sender) s.bus.request f.sender none with
    framed := true, words := encodeFrame f, answer := some .ack }

/-- An attempt that this station sends, its readback passed. -/
def sends (s : State) (f : Frame) : Attempt :=
  { newAttempt s (setOne s.number) true s.number (some f) with
    framed := true, words := encodeFrame f, readback := some true, answer := some .ack }

/-- The state with the attempt in flight. -/
def during (a : Attempt) (s : State) : State := s.setBus { s.bus with attempt := some a }

/-- An end of attempt at which stations 2, 5 and 9 read ACK. -/
def acked : Instr := .attemptEnd 0x0060 0x0600 0x0600 0
/-- The same, with 5 reading REFUSE and 9 SILENT. -/
def refused : Instr := .attemptEnd 0x0060 0x0900 0 0
/-- The same, with station 9 reading ABSTAIN. -/
def left9 : Instr := .attemptEnd 0x0060 0x0600 0x0C00 0
/-- The same, with station 2 reading ABSTAIN. -/
def left2 : Instr := .attemptEnd 0x00C0 0x0600 0x0600 0

theorem ends {s : State} {a : Attempt} {w0 w1 w2 w3 : Word16} (h : a.discard = false)
    (hf : a.framed = true) : EndsWith (during a s) a (.attemptEnd w0 w1 w2 w3) :=
  ⟨rfl, h, .inl ⟨hf, w0, w1, w2, w3, rfl⟩⟩

/-- The sixteen fields with the given readings, SILENT elsewhere. -/
def fields (l : List (Nat × Response)) : Vector Response 16 :=
  Vector.ofFn fun n => ((l.find? (fun p => p.1 == n.val)).map Prod.snd).getD .silent

/-- An attempt of station w as a receiver sees it. -/
def seen (w : Station) (b : Body) (l : List (Nat × Response)) : Seen :=
  ⟨w, false, some (frame w b), fields l, none⟩

/-- Every member of the group reads ACK. -/
def acks : List (Nat × Response) := [(2, .ack), (5, .ack), (9, .ack)]

/-! ### Well-formed commands -/

theorem test_wellFormed_unknown_is_no_command : wellFormed (.unknownCommand 1) = false ∧
    wellFormed (.unknownCommand 14) = false ∧ wellFormed (.unknownCommand 0) = true ∧
    wellFormed (.unknownCommand 15) = true := by decide
theorem test_wellFormed_window_is_not_command : wellFormed (.windowWrite 0 5) = false := by decide
theorem test_wellFormed_window_is_not_mask : wellFormed (.windowWrite 11 5) = false ∧
    wellFormed (.windowWrite 10 5) = true := by decide
theorem test_wellFormed_broken_has_three_words : wellFormed (.attemptBroken [6, 6, 6, 6]) = false ∧
    wellFormed (.attemptBroken [6, 6, 6]) = true := by decide

/-! ### The machine and the host's commands -/

/-- Three microseconds on an empty queue, and the wrap of the clock (R161). -/
theorem test_empty_queue_ticks :
    step State.reset = .next (State.reset.setPort { Port.reset with clock := 1 }) := by rfl
theorem test_withFetchWord_changes_nothing : State.reset.withFetchWord 16 0xABCD = State.reset := by rfl

theorem test_reset_clears : (run (.powerOnReset 9) (full (at_ .member))).number = 9 ∧
    (run (.powerOnReset 9) (full (at_ .member))).port.reserved = 0 ∧
    (run (.powerOnReset 9) (full (at_ .member))).record = none := by decide +kernel

theorem test_set_locked_is_refused :
    (run .set (args (at_ .member) 1 0 4 0)).port.result0 = codeRefusedState := by decide +kernel
theorem test_set_quota : (run .set (args (at_ .offline) 1 0 4 0)).port.store.q = 4 := by decide +kernel
theorem test_start_needs_E_below_L :
    (run .start ((at_ .offline).setPort { Port.reset with store := { Store.reset with l := 3 } })).port.result0
      = codeBadConfig := by decide +kernel
theorem test_start_listens : (run .start (at_ .offline)).control.state = .listen := by decide +kernel
theorem test_restart_departs : (run .restart (at_ .member)).control.cause = some .restart := by
  decide +kernel
theorem test_restart_offline : (run .restart (at_ .offline)).port.result0 = codeRefusedState := by
  decide +kernel
theorem test_leave_member : (run .leave (at_ .member)).control.state = .leaving ∧
    (run .leave (at_ .member)).port.reserved = 1 := by decide +kernel
theorem test_leave_listen : (run .leave (at_ .listen)).port.completions = [.leaveLeft] ∧
    (run .leave (at_ .listen)).control.state = .offline := by decide +kernel
/-- Station 2 is in the target set of slot 7, so RESUME leaves a CLAIM standing and PAUSE none (R148). -/
theorem test_resume_wants : claimStanding (run .resume (at_ .member)) = true := by decide +kernel
theorem test_pause_wants_not : claimStanding (run .pause (run .resume (at_ .member))) = false := by
  decide +kernel
theorem test_readGrant_empty : (run .readGrant (at_ .member)).port.result0 = codeEmpty := by
  decide +kernel
theorem test_raise_first_id : (run .raise (args (at_ .member) 7 4 0 0)).origin.raises.map RaiseRecord.id
    = [0] := by decide +kernel
theorem test_inspect_word : (run .inspect (args (at_ .member) 0 0 0 0)).port.result1 = 0xD225005F := by
  decide +kernel
theorem test_status_word : (run .status (at_ .member)).port.result1 = 0x00050224 := by decide +kernel
theorem test_unknown_bad_arg : (run (.unknownCommand 15) (at_ .member)).port.result0 = codeBadArg := by
  decide +kernel
theorem test_mask_keeps_four_bits : windowRead (run (.irqMaskWrite 0xFFFFFFF5) (at_ .member)) 11 = 5 := by
  decide +kernel
theorem test_arg_reads_back : windowRead (run (.windowWrite 4 99) (at_ .member)) 4 = 99 := by
  decide +kernel

/-! ### Lines, timers and the bus -/

theorem test_level_line_wants :
    (run (.eventLineChange 1 true) (line1 level (at_ .member))).origin.lines[(1 : Line)].state = .want := by
  decide +kernel
theorem test_edge_memo : (run (.eventLineChange 1 true) (line1 { level with mode := .edgeRise, state := .served }
    (at_ .member))).origin.lines[(1 : Line)].memo = true := by decide +kernel
/-- The pointer example of R27: requests of 2 and 9 from pointer 3 give the bus to 9. -/
theorem test_winner_counts_up : winnerOf 3 0x0204 = some 9 ∧ winnerOf 10 0x0204 = some 2 := by
  decide +kernel
theorem test_close_begins_attempt :
    (run (.arbitrationClose ⟨0x0200, false⟩) (at_ .member)).bus.attempt.map Attempt.winner = some 9 := by
  decide +kernel
theorem test_open_arbitrates : (run (.arbitrationOpen 0x0200) (at_ .member)).bus.arbitrating = true := by
  decide +kernel
theorem test_rest_starts_observing :
    (run .busAtRest (run .start (at_ .offline))).bus.observing = true := by decide +kernel
theorem test_bad_frame_is_refused :
    ((run (.frameEnd [1, 2, 3, 4]) (during (newAttempt (at_ .member) 0x20 false 5 none) (at_ .member))).bus.attempt.bind
      Attempt.answer) = some (.refuse .check) := by decide +kernel
/-- The check word of the three words of a BEACON, by the polynomial of R170: worked by hand for 0. -/
theorem test_check_word_of_nothing : checkWord [] = 0xFFFF := by decide
/-- R170 on one word: the register after 0x0000 from 0xFFFF, the CRC-16/CCITT of two zero bytes. -/
theorem test_check_word_of_zero : checkWord [0] = 0x1D0F := by decide +kernel
theorem test_broken_fails :
    (run (.attemptBroken []) (during (newAttempt (at_ .member) 0x20 false 5 none) (at_ .member))).record.map Record.seq
      = some 100 := by decide +kernel
theorem test_idle_adds_beacon :
    holdsAim (· == .beacon) (run .idleTimerExpiry ((at_ .member).setAgenda { Agenda.reset with idle := some 1 }))
      = true := by decide +kernel
theorem test_quiet_founds : (run .quietTimerExpiry (at_ .listen)).control.state = .founding := by
  decide +kernel

/-! ### The worked example of blame and eviction (chapter 3) -/

/-- Members 1, 4, 7 and 9 with E = 3, before the first attempt. -/
def example3 : Record :=
  ⟨0x0292, Vector.replicate 16 0, 2207, ⟨8, 3, 8, 3, 4⟩,
   [⟨0, 2190, 1, 1, 3, 0x0290, none, 0, false, none⟩, ⟨3, 2201, 7, 1, 6, 0x0210, some 9, 0, false, none⟩],
   none⟩

/-- Attempt 1: station 9 refuses for the check, the others read ACK. Only 9 is charged. -/
theorem test_example3_attempt1 :
    let j := judge 1 ⟨4, false, some (frame 4 (.claim ⟨0, 2190⟩)),
      fields [(1, .ack), (4, .ack), (7, .ack), (9, .refuse)], none⟩ example3
    j.took = false ∧ j.record.miss = (Vector.replicate 16 0).set 9 1 ∧ j.departures = [] := by
  decide +kernel

/-- Attempt 3: station 9 is silent with two charges. It is evicted and slot 3 returns to OFFERED. -/
theorem test_example3_attempt3 :
    let j := judge 1 ⟨4, false, some (frame 4 (.claim ⟨0, 2190⟩)),
      fields [(1, .ack), (4, .ack), (7, .ack)], none⟩
      { example3 with miss := (Vector.replicate 16 0).set 9 2 }
    j.departures = [(9, .evicted)] ∧ j.record.members = 0x0092 ∧
      j.record.entries.map Entry.claimant = [none, none] ∧ j.record.seq = 2207 := by decide +kernel

/-- Attempt 4: the CLAIM of slot 3 takes. -/
theorem test_example3_attempt4 :
    let j := judge 1 ⟨4, false, some (frame 4 (.claim ⟨3, 2201⟩)),
      fields [(1, .ack), (4, .ack), (7, .ack)], none⟩
      { example3 with
        members := 0x0092
        entries := [⟨0, 2190, 1, 1, 3, 0x0290, none, 0, false, none⟩,
          ⟨3, 2201, 7, 1, 6, 0x0210, none, 0, false, none⟩] }
    j.took = true ∧ j.record.seq = 2208 ∧ j.record.entries.map Entry.claimant = [none, some 4] := by
  decide +kernel

/-! ### The founding of a group (chapter 6, worked example) -/

/-- Attempt A at station 2: its FOUND is taken with every other field SILENT. -/
theorem test_example6_founds :
    let s := holding [aim .found 0] (some (aim .found 0)) (at_ .founding)
    let t := run (.attemptEnd 0x0060 0 0 0) (during (sends s ⟨2, 0, 0, .found params⟩) s)
    t.control.state = .member ∧ t.record.map Record.seq = some 1 ∧ t.bus.pointer = 3 := by decide +kernel

/-! ### Witnesses: the machine and the host's commands -/

theorem witness_at (st : StationState) : (at_ st).control.state = st := rfl
theorem witness_StepRunsFrontCommand : (State.reset.setPending [.status]).pending = .status :: [] ∧
    State.reset.pending = [] := ⟨rfl, rfl⟩
theorem witness_CommandsChangeOnlyWhatIsTheirs :
    wellFormed .status = true ∧ (∀ n, Instr.status ≠ .powerOnReset n) ∧
      (∀ n l, Instr.status ≠ .eventLineChange n l) := ⟨rfl, nofun, nofun⟩
theorem witness_WindowLocationsChangeByTheirWrites :
    (∀ loc : Fin 16, loc = 1 ∨ loc = 4 ∨ loc = 5 ∨ loc = 15 → loc ≠ 0 ∧ loc ≠ 11) ∧
      hostCode .busAtRest = none ∧ (∃ t, exec .busAtRest (at_ .member) = .next t) := by
  refine ⟨by decide, rfl, _, rfl⟩
theorem witness_RefusedCommandChangesOnlyResults :
    hostCode .set = some 1 ∧ wellFormed .set = true ∧ (run .set State.reset).port.result0 ≠ 1 ∧
      wellFormed (.unknownCommand 0) = true ∧ wellFormed (.unknownCommand 15) = true := by decide +kernel
theorem witness_SetChangesTheItemNamed :
    ¬ configAccepts 1 0 33 ∧ ¬ configAccepts 14 16 0 ∧ configAccepts 1 0 32 ∧ configAccepts 2 0 2 ∧
      configAccepts 14 15 65535 ∧ configAccepts 17 3 8191 ∧
      (at_ .member).port.store.locked = true ∧
      (at_ .offline).control.state = .offline ∧ (at_ .offline).port.store.locked = false := by
  unfold configAccepts; decide +kernel
theorem witness_StartLocksAndListens :
    (at_ .offline).control.state = .offline ∧ startChecks (at_ .offline) ∧ PlaceSound (at_ .offline) ∧
      ¬ startChecks ((at_ .offline).setPort { Port.reset with store := { Store.reset with d := 9 } }) ∧
      startChecks ((at_ .offline).setPort { Port.reset with store := { Store.reset with d := 8 } }) := by
  unfold startChecks
  refine ⟨rfl, by decide +kernel, ?_, by decide +kernel, by decide +kernel⟩
  decide +kernel
theorem witness_RestartByStationState :
    ((at_ .departing).setControl { (at_ .departing).control with cause := some .leave }).control.state
      = .departing := rfl
theorem witness_LeaveByStationState :
    ¬ (full (at_ .member)).port.reserved + (full (at_ .member)).port.completions.length < 16 ∧
      (at_ .member).port.reserved + (at_ .member).port.completions.length < 16 := by decide +kernel
/-- A LEAVE to OFFLINE during an attempt leaves the idle timer running to that attempt's end (R24, R94). -/
theorem witness_LeaveByStationState_during_an_attempt :
    let s := (at_ .listen).setAgenda { Agenda.reset with idle := some 1000 }
    let t := run .leave (during (hears s (frame 5 .beacon)) s)
    t.control.state = .offline ∧ t.agenda.idle = some 1000 ∧ t.bus.observing = true ∧
      (run (.attemptBroken []) t).agenda.idle = none ∧ (run (.attemptBroken []) t).bus.observing = false := by
  decide +kernel
theorem witness_PauseAndResumeOnlyMoveTheWant :
    let s := run .resume (at_ .member)
    wantsToClaim (run .resume s) = true ∧ claimStanding s = true := by decide +kernel

/-- Station 2 with a grant record for its claim in slot 0. -/
def granted1 (g : GrantState) (st : StationState) : State :=
  (at_ st).setClaim { Claim.reset with grants := [{ grantOf mine with state := g }] }

theorem witness_ReadGrantTakesOldestUnread :
    (∀ g ∈ (granted1 .inService .member).claim.grants, g.state ≠ .unread) ∧
      (granted1 .unread .member).claim.grants = [] ++ grantOf mine :: [] ∧ (grantOf mine).state = .unread ∧
      16 ≤ (full (granted1 .unread .member)).port.reserved + 0 ∧
      (granted1 .unread .member).port.reserved + 0 < 16 := by decide +kernel
theorem witness_FinishByGrantRecord :
    (args (at_ .member) 32 0 0 0).port.arg0.toNat = 32 ∧
      (args (at_ .member) 0 65536 0 0).port.arg1.toNat = 65536 ∧
      (args (at_ .member) 31 65535 0 0).port.arg0.toNat = 31 ∧
      (∀ st, st = .member ∨ st = .leaving ∨ st = .departing → GrantsSound (granted1 .inService st)) ∧
      GrantsSound (granted1 .unread .member) ∧ (grantOf mine).handle = ⟨0, 95⟩ := by
  refine ⟨by decide, by decide, by decide, ?_, by decide +kernel, by decide⟩
  rintro st (rfl | rfl | rfl) <;> decide +kernel
theorem witness_RaiseAppendsQueuedRecord :
    let s := args (at_ .member) 0x00071FFF 1 0 65535
    (s.port.arg0.extractLsb' 0 16).toNat = 8191 ∧ (s.port.arg0.extractLsb' 16 8).toNat = 7 ∧
      s.port.arg1.extractLsb' 0 16 ≠ 0 ∧ s.port.arg3.toNat = 65535 ∧ s.origin.raises.length < 8 ∧
      s.port.reserved + s.port.completions.length < 16 ∧ 16 ≤ (full s).port.reserved ∧
      8 ≤ (s.setOrigin { Origin.reset with raises := List.replicate 8 raised }).origin.raises.length := by
  decide +kernel
theorem witness_EnableLineLeavesHoldoff :
    let s := args (line1 { level with state := .holdoff } (at_ .member)) 1 0 0 0
    s.port.arg0.toNat = (1 : Line).val ∧ s.origin.lines[(1 : Line)].state = .holdoff ∧
      s.origin.lines[(2 : Line)].state ≠ .holdoff ∧ s.control.state = .member ∧ lineActive s 1 = false ∧
      lineActive (s.setOrigin { s.origin with levels := 2 }) 1 = true := by decide +kernel
theorem witness_QueueReadsRemoveTheOldest :
    (at_ .member).port.completions = [] ∧ (at_ .member).port.faults = [] ∧
      (run .leave (at_ .listen)).port.completions = .leaveLeft :: [] ∧
      (postFault .desync none none none none (at_ .member)).port.faults =
        ⟨.desync, 0, none, none, none, some 100, none⟩ :: [] := by decide +kernel
theorem witness_InspectAndStatusAnswer :
    (at_ .member).record = some group ∧ (∀ e ∈ group.entries, e.slot.val ≠ 31) ∧ mine ∈ group.entries ∧
      group.Ordered ∧ mine.slot.val = (args (at_ .member) 0 0 0 0).port.arg0.toNat ∧ mine.revokes ≤ 7 ∧
      (at_ .member).port.faults.length ≤ 8 := by decide +kernel
theorem witness_HostIrqFollowsItsCauses :
    wellFormed .start = true ∧ (∀ n, Instr.start ≠ .powerOnReset n) ∧
      (run .start (at_ .offline)).control.state ≠ (at_ .offline).control.state ∧
      (run .start (at_ .offline)).port.stateCause = true ∧ Instr.pause ≠ .status := by
  refine ⟨rfl, nofun, by decide +kernel, by decide +kernel, nofun⟩

/-! ### Witnesses: lines and timers -/

theorem witness_LinesFollowTheirInputs :
    (at_ .member).origin.levels.getLsbD (1 : Line).val ≠ true ∧ level.mode.isLevel = true ∧
      level.state = .idle ∧ (line1 { level with state := .want } (at_ .leaving)).control.state ≠ .departing ∧
      (line1 { level with mode := .levelLow, state := .offered, handle := some ⟨3, 90⟩ }
        (at_ .leaving)).origin.lines[(1 : Line)].handle = some ⟨3, 90⟩ ∧
      LineMode.edgeRise.isLevel = false := by decide +kernel
theorem witness_AgendaTimerExpiries :
    ((at_ .member).setAgenda { Agenda.reset with idle := some 1 }).agenda.idle.isSome ∧
      ((at_ .departing).setControl { (at_ .departing).control with wait := some 1 }).control.wait.isSome ∧
      AgendaSound (holding [⟨.claim, 3, 0, some 300⟩] none (at_ .member)) := by decide +kernel
theorem witness_MembershipTimerExpiries :
    PlaceSound (at_ .listen) ∧ (at_ .listen).control.quiet.isSome ∧
      PlaceSound ((at_ .joining).setControl { (at_ .joining).control with joinReply := some 1 }) ∧
      PlaceSound ((at_ .joining).setControl
        { (at_ .joining).control with backoff := some (300, .sendJoin) }) ∧
      (∀ b : Bool, PlaceSound ((at_ .listen).setControl
        { (at_ .listen).control with quiet := none, backoff := some (300, .listen), headNoted := b })) := by
  refine ⟨by decide +kernel, rfl, by decide +kernel, by decide +kernel, ?_⟩
  intro b; cases b <;> decide +kernel
theorem witness_ServiceTimerAddsRevoke :
    let r := { group with entries := [{ own with claimant := some 5 }] }
    let s := (line1 { level with state := .served, handle := some ⟨3, 90⟩, timer := some 1 }
      (at_ .member)).setRecord (some r)
    let s' := ((at_ .leaving).setRecord (some r)).setOrigin { Origin.reset with
      raises := [{ raised with state := .served, timer := some 1 }] }
    r.Ordered ∧ { own with claimant := some 5 } ∈ r.entries ∧
      s.origin.lines[(1 : Line)].handle = some ⟨3, 90⟩ ∧ s.origin.lines[(1 : Line)].timer.isSome ∧
      AccountsSound (s'.setPort { s'.port with reserved := 2 }) := by decide +kernel

/-! ### Witnesses: the share bus -/

/-- Station 2 with a request driven for these purposes. -/
def asking (ps : List Purpose) : State := updateRequest (holding ps none (at_ .member))

/-- Station 2 with its CLAIM asked for, the arbitration open, and a PAUSE since. -/
def pausedLate : State := run .pause (run (.arbitrationOpen 0) (run .resume (at_ .member)))

/-- A line sampled driven whose agenda has stopped wanting the bus: granted, the station sends NULL (R26,
R148); sampled as it stands now, nobody wins. -/
theorem test_pause_after_sampling_gives_null :
    ((run (.arbitrationClose ⟨0, true⟩) pausedLate).bus.attempt.bind Attempt.driven).map Frame.body
      = some .null ∧
      (run (.arbitrationClose ⟨0, false⟩) pausedLate).bus.attempt = none := by decide +kernel

theorem witness_ArbitrationGrantsFirstFromPointer :
    (run .start (at_ .offline)).bus.awaitRest = true ∧ (run .start (at_ .offline)).bus.attempt = none ∧
      (asking [aim .beacon 0]).bus.request = true ∧ (asking []).bus.request = false ∧
      (asking [aim .beacon 0]).bus.requestChanged = true ∧ (asking []).bus.requestChanged = false ∧
      (asking [aim .beacon 0]).bus.arbitrating = false ∧ pausedLate.bus.requestChanged = true ∧
      pausedLate.bus.request = false ∧
      (0x0200 : Word16).getLsbD (9 : Station).val = true ∧
      (∀ x : Station, (0x0204 : Word16).getLsbD x.val = true →
        ((9 : Station) - 3).val ≤ (x - 3).val) ∧
      (∀ x : Station, (0x0006 : Word16).getLsbD x.val = true →
        ((1 : Station) - 3).val ≤ (x - 3).val) := by decide +kernel
theorem witness_PurposesRankByKindThenAge :
    goesBefore (aim .duty 5) (aim .beacon 1) = true ∧
      goesBefore (aim (.offer (.line 0) 3) 1) (aim (.offer (.line 1) 4) 2) = false := by decide
theorem witness_GrantBuildsFirstValidPurpose :
    let s := asking [aim (.done ⟨7, 96⟩) 0, aim (.done ⟨0, 95⟩) 1, aim .beacon 2]
    let s' := asking [aim (.done ⟨7, 96⟩) 0]
    s.bus.observing = true ∧ s.bus.awaitRest = false ∧ s.bus.request = true ∧
      s.bus.requestChanged = true ∧ AgendaSound s ∧ s.bus.attempt = none ∧
      ¬(s.control.state = .founding ∧ s.control.foreign = true) ∧
      (∀ x : Station, (0x0004 : StationSet).getLsbD x.val = true →
        (s.number - s.bus.pointer).val ≤ (x - s.bus.pointer).val) ∧
      validNow s (aim (.done ⟨0, 95⟩) 1) = true ∧ validNow s (aim (.done ⟨7, 96⟩) 0) = false ∧
      (∀ p ∈ s'.agenda.purposes, ¬(sendable s' p = true ∧ validNow s' p = true)) := by decide +kernel
theorem witness_GrantBuildsFirstValidPurpose_released :
    AgendaSound pausedLate ∧ pausedLate.bus.requestChanged = true ∧ pausedLate.agenda.purposes = [] ∧
      pausedLate.bus.observing = true ∧ pausedLate.bus.awaitRest = false ∧
      pausedLate.bus.attempt = none ∧ ∀ x : Station, (0 : StationSet).getLsbD x.val ≠ true := by
  decide +kernel
theorem witness_GrantBuildsFirstValidPurpose_founding :
    let held := holding [aim .found 0] none (at_ .founding)
    let s := updateRequest (held.setControl { held.control with foreign := true })
    PlaceSound s ∧ s.control.state = .founding ∧ s.control.foreign = true ∧ s.bus.observing = true ∧
      s.bus.attempt = none ∧ s.bus.requestChanged = true ∧ s.bus.awaitRest = false := by
  refine ⟨?_, ?_⟩ <;> decide +kernel
theorem witness_PurposesAreBuiltAsTheirKindsGive :
    (at_ .member).record = some group ∧ group.Ordered ∧ (∀ e ∈ group.entries, e.slot ≠ 1) ∧
      (∀ m : Slot, m < 1 → ∃ e ∈ group.entries, e.slot = m) ∧
      AccountsSound (((at_ .member).setOrigin { Origin.reset with raises := [raised] }).setPort
        { (at_ .member).port with reserved := 1 }) ∧
      (∀ v ph, (joining9 v ph 0 0).Ordered) ∧
      (joining9 .admitted .sending 1 3).entries = [own] ++ mine :: [wanted] := by
  refine ⟨rfl, by decide, by decide, by decide, by decide +kernel, ?_, rfl⟩
  rintro (_ | _ | _ | _) (_ | _) <;> decide +kernel
theorem witness_ClaimSelectsHighestThenOldest :
    let s := at_ .member
    group.entries = [own, mine] ++ wanted :: [] ∧ wanted.claimant = none ∧
      wanted.targets.getLsbD s.number.val = true ∧ (∀ i : Fin 4, s.claim.filters[i].enabled = false) ∧
      s.claim.paused = false ∧ s.claim.grants.length < s.port.store.d ∧ group.join = none ∧
      own.priority < wanted.priority ∧ mine.priority < wanted.priority ∧
      (run .pause s).claim.paused = true := by decide +kernel
theorem witness_MemberAnswersByFirstFailingTest :
    let s := during (newAttempt (at_ .member) 0x20 false 5 none) (at_ .member)
    (∀ a ∈ s.bus.attempt, a.framed = false ∧ a.driven = none ∧ a.stateAtClose = .member) ∧
      s.record = some group ∧ decodeFrame [1, 2, 3, 4] = none ∧
      decodeFrame (encodeFrame ⟨5, 99, 0x0224, .beacon⟩) = some ⟨5, 99, 0x0224, .beacon⟩ ∧
      contentOk 2 5 group .beacon = true ∧ contentOk 2 5 group (.found params) = false := by decide +kernel
theorem witness_OtherStationsAnswerByState :
    ∀ st ∈ [StationState.departing, .joining, .listen, .isolated],
      (newAttempt (at_ st) 0x20 false 5 none).stateAtClose = st ∧
      (newAttempt (at_ st) 0x20 false 5 none).framed = false := by decide +kernel
/-- A sender's check word register has run over the words it drove, whatever it read back (R29, R170). -/
theorem test_sender_check_word :
    let s := at_ .member
    let a := newAttempt s 4 true 2 (some (frame 2 .beacon))
    ((run (.frameEnd [1, 2, 3, 4]) (during a s)).bus.attempt.map Attempt.crc)
      = (encodeFrame (frame 2 .beacon)).getLast? := by decide +kernel
theorem witness_ResponseFieldsReadAsDriven :
    (1 : Nat) ≤ (4 : Station).val / 4 ∧ (3 : Station).val / 4 < 1 ∧
      (0x6000 : Word16).extractLsb' 14 2 = 1 ∧ (0x6000 : Word16).extractLsb' 12 2 = 2 ∧
      (0x4000 : Word16).extractLsb' 12 2 ≠ ~~~((0x4000 : Word16).extractLsb' 14 2) := by decide
theorem witness_AttemptEndSetsThePointer :
    let s := at_ .member
    let u := s.setBus { s.bus with learned := false }
    EndsWith (during (hears s (frame 5 .beacon)) s) (hears s (frame 5 .beacon)) acked ∧ ¬ s.off ∧
      s.bus.learned = true ∧ u.bus.learned = false ∧ headOf (hears u (frame 5 .beacon)) = some (frame 5 .beacon) ∧
      headOf { hears u (frame 5 .beacon) with words := [1, 2] } = none ∧
      (run left2 (during (hears s (frame 5 .beacon)) s)).control.state = .listen ∧
      (run left2 (during (hears (at_ .leaving) (frame 5 .beacon)) (at_ .leaving))).off ∧
      { hears s (frame 5 .beacon) with discard := true }.discard = true ∧
      headOf (hears s (frame 2 .beacon)) = some (frame 2 .beacon) ∧
      (newAttempt s 4 false 2 none).winnerLearned = true ∧
      (run acked (during (hears s (frame 2 .beacon)) s)).record.isSome ∧
      (run left2 (during (hears s (frame 2 .beacon)) s)).record = none := by
  refine ⟨ends rfl rfl, by decide, by decide, by decide, by decide +kernel, by decide +kernel,
    by decide +kernel, by decide +kernel, rfl, by decide +kernel, rfl, by decide +kernel,
    by decide +kernel⟩
theorem witness_AttemptEndJudgesTheCopy :
    let s := at_ .member
    let a := hears s (frame 5 .beacon)
    EndsWith (during a s) a acked ∧ s.judging ∧ s.record = some group ∧
      (judgementOf s a acked group).own = none ∧ (judgementOf s a left2 group).own ≠ none ∧
      s.port.faults.length ≤ 8 ∧
      (judgementOf s a left9 group).departures = [(9, .abstained)] := by
  refine ⟨ends rfl rfl, by decide, rfl, by decide +kernel, by decide +kernel, by decide,
    by decide +kernel⟩
theorem witness_FramesReadBackFromTheirWords :
    ∀ b ∈ [Body.null, .found params, .join params, .reply .deferred 9 63 (Vector.replicate 16 7) params,
      .entry 31 { own with revokes := 7 }, .close 65535, .offer 31 8191 7 0xFFFF (some 1),
      .claim ⟨31, 65535⟩, .leave], (frame 15 b).Encodable := by
  intro b hb
  simp only [List.mem_cons, List.not_mem_nil, or_false] at hb
  rcases hb with rfl | rfl | rfl | rfl | rfl | rfl | rfl | rfl | rfl <;>
    simp only [Frame.Encodable, frame] <;> decide
theorem witness_FrameIsGoodByKindLengthAndCheck :
    decodeFrame (encodeFrame (frame 5 (.claim ⟨7, 96⟩))) = some (frame 5 (.claim ⟨7, 96⟩)) := by
  decide +kernel
/-- The words of an ENTRY with a payload, bit by bit (R169): head 0 is kind 4, sender 5, slot 7 and the payload
flag; body word 0 is position 2, revoke count 1, CLAIMED, orphan, origin 9. -/
theorem test_entry_words :
    let e : Entry := ⟨7, 96, 9, 9, 6, 0x0004, some 12, 1, true, some 0x00010005⟩
    (encodeFrame (frame 5 (.entry 2 e))).dropLast =
      [0b0100010100111100, 100, 0x0224, 0b0001000111100100, 96, 0b0000000001001110, 0x0004,
        0b1100000000000000, 1, 5] := by decide +kernel
/-- A REPLY read from its words (R169): DEFERRED for station 9; station 0's count 5 opens the string, station
5's count 7 spans its words 1 and 2, station 15's count 3 closes it; then the parameters. Head 0 has its bits
marked 0 set, and a payload flag and slot that are not examined. -/
theorem test_reply_is_read_from_its_words :
    let ws : List Word16 := [0b0011001011111111, 100, 0x0224, 0b0110010000001111, 0b1010000000000001,
      0b1100000000000000, 0b0000000000000011, 0b0011101101110001, 0b0000010011111111]
    decodeFrame (ws ++ [checkWord ws]) = some (frame 2
      (.reply .deferred 9 0 #v[5, 0, 0, 0, 0, 7, 0, 0, 0, 0, 0, 0, 0, 0, 0, 3] params)) := by decide +kernel

/-! ### Witnesses: the judgement -/

theorem witness_AttemptTakesWhenEveryMemberAcks :
    (judge 2 (seen 5 .beacon acks) group).took = true ∧
      (judge 2 (seen 5 .beacon [(2, .ack), (5, .ack)]) group).took = false ∧
      (judge 2 (seen 5 .beacon [(2, .ack), (5, .ack)]) group).departures = [] := by decide +kernel
theorem witness_NonMembersFieldsDoNotCount :
    ∀ n : Station, setHas group.members n = true →
      (fields ((15, .refuse) :: acks))[n] = (seen 5 .beacon acks).fields[n] := by decide +kernel
theorem witness_BlameChargesAndEvictions :
    let x := seen 5 .beacon [(2, .refuse), (5, .ack)]
    let r := { group with miss := (Vector.replicate 16 0).set 9 2 }
    (judge 2 x r).took = false ∧ setHas r.members 9 = true ∧ x.fields[(9 : Station)] ≠ .abstain ∧
      setHas (judge 2 x r).record.members 9 = false ∧ setHas (judge 2 x r).record.members 5 = true ∧
      0 < r.params.e := by decide +kernel
theorem witness_ContentChecksOfMemberKinds : group.Ordered ∧ group.join = none := by decide +kernel
theorem witness_TakenFramesChangeTheirEntry :
    group.Ordered ∧ group.members ≠ 0 ∧
      (∀ n : Station, setHas group.members n = true → (fields acks)[n] = .ack) ∧
      contentOk 2 5 group (.offer 1 8 2 4 none) = true ∧ contentOk 2 5 group (.offer 0 8 2 4 none) = false ∧
      contentOk 5 2 group (.claim ⟨7, 96⟩) = true ∧ contentOk 5 2 group (.done ⟨0, 95⟩) = true ∧
      contentOk 5 2 group (.withdraw ⟨3, 90⟩) = true ∧ contentOk 2 5 group (.revoke ⟨0, 95⟩) = true ∧
      mine ∈ group.entries ∧ contentOk 2 5 group .leave = true ∧ contentOk 2 5 group .beacon = true := by
  decide +kernel
theorem witness_TakenWithAbstentionsAppliedOrNot :
    let x := seen 5 (.claim ⟨7, 96⟩) [(2, .ack), (5, .ack), (9, .abstain)]
    (judge 2 x group).took = true ∧ (judge 2 x group).applied = false ∧
      (judge 2 (seen 5 .beacon [(2, .ack), (5, .ack), (9, .abstain)]) group).applied = true := by
  decide +kernel
theorem witness_DepartureEffectsByEntryAndRole :
    group.join = none ∧
      (∀ v, (joining9 v .replyDue 0 0).join = some ⟨9, 2, v, .replyDue, 0, 0, []⟩) ∧
      (∀ q : Station, (q ≠ 2 ∧ setHas group.members q = true) → q ≠ 9 → 5 ≤ q) := by
  refine ⟨rfl, fun _ => rfl, by decide +kernel⟩
theorem witness_DeparturesCommute :
    (joining9 .admitted .sending 1 3).Lawful ∧ setHas group.members 2 = true ∧
      setHas group.members 9 = true := by decide +kernel
theorem witness_JudgementKeepsTheLawsOfTheRecord :
    let r := joining9 .admitted .sending 1 3
    r.Lawful ∧ setHas r.members 2 = true ∧ ¬ JoinsIn 2 r ∧
      (judge 2 (seen 2 (.entry 1 mine) acks) r).record.members ≠ 0 := by decide +kernel
theorem witness_JoinTakesByVerdict :
    group.members ≠ 0 ∧ (∀ n : Station, setHas group.members n = true → (fields acks)[n] = .ack) ∧
      (joining9 .admitted .replyDue 0 0).join.isSome ∧ group.join = none ∧
      (∀ n, setHas 0x0004 n = true → n = (2 : Station)) ∧
      (∀ n : Station, setHas group.members n = true → n ≠ 7 → 2 ≤ n) ∧
      setHas group.members 7 = false ∧ setHas group.members 5 = true := by decide +kernel
theorem witness_SnapshotFramesMoveTheJoinRecord :
    let due := joining9 .admitted .replyDue 0 0
    (∀ n : Station, setHas due.members n = true → (fields acks)[n] = .ack) ∧ due.members ≠ 0 ∧
      contentOk 5 2 due (.reply .admitted 9 3 due.miss params) = true ∧
      contentOk 5 2 (joining9 .deferred .replyDue 0 0) (.reply .deferred 9 0 due.miss params) = true ∧
      contentOk 5 2 { due with join := some ⟨9, 2, .admitted, .sending, 1, 3, [(7, .deferred)]⟩ }
        (.reply .deferred 7 0 due.miss params) = true ∧
      contentOk 5 2 (joining9 .admitted .sending 1 3) (.entry 1 mine) = true ∧
      contentOk 9 2 { joining9 .admitted .sending 1 3 with entries := [own] } (.entry 1 mine) = true ∧
      contentOk 5 2 (joining9 .admitted .sending 3 3) (.close 3) = true := by decide +kernel
theorem witness_CopiesStayAlike :
    let s := at_ .member
    let s' := { s with number := 9 }
    let a := hears s (frame 5 .beacon)
    group.Lawful ∧ ¬ JoinsIn 2 group ∧ ¬ JoinsIn 9 group ∧ endsAttempt a acked ∧
      (run acked (during a s)).control.state = .member ∧
      (run acked (during a s')).control.state = .member := by
  refine ⟨by decide +kernel, by decide, by decide, .inl ⟨rfl, _, _, _, _, rfl⟩, by decide +kernel,
    by decide +kernel⟩

/-! ### Witnesses: the station at the end of an attempt -/

theorem witness_OwnFoundAndJoinAreJudgedHere :
    ∀ n : Nat, n = 0 ∨ n = 7 →
      let q : Purpose := ⟨.found, 1, n, none⟩
      let q' : Purpose := ⟨.join, 1, n, none⟩
      let s := holding [q] (some q) (at_ .founding)
      let s' := holding [q'] (some q') (at_ .joining)
      EndsWith (during (sends s ⟨2, 0, 0, .found params⟩) s) (sends s ⟨2, 0, 0, .found params⟩) acked ∧
        PlaceSound s ∧ AgendaSound s ∧ PlaceSound s' ∧ AgendaSound s' ∧ s.port.store.l = 8 ∧
        AccountsSound s := by
  rintro n (rfl | rfl) <;>
    exact ⟨ends rfl rfl, by decide +kernel, by decide +kernel, by decide +kernel, by decide +kernel, rfl,
      by decide +kernel⟩
/-- A receive error heard in FOUNDING meets the first part: it sets the flag (R100). -/
theorem witness_OwnFoundAndJoinAreJudgedHere_foreign :
    let s := holding [aim .found 1] none (at_ .founding)
    let a := { hears s (frame 5 .beacon) with words := [1, 2] }
    EndsWith (during a s) a acked ∧ PlaceSound s ∧ a.driven = none ∧ a.readback ≠ some false ∧
      s.control.foreign = false ∧ (run acked (during a s)).control.foreign = true ∧
      (sends s (frame 2 .null)).driven.map Frame.body = some .null := by
  exact ⟨ends rfl rfl, by decide +kernel, rfl, by decide, rfl, by decide +kernel, rfl⟩
theorem witness_ListenObservesAttempts :
    let s := at_ .listen
    let a := hears s (frame 5 .beacon)
    EndsWith (during a s) a acked ∧ PlaceSound s ∧ headOf a = some (frame 5 .beacon) ∧
      headOf { a with words := [1, 2] } = none ∧ (0x0224 : Word16).getLsbD s.number.val = true ∧
      6 + 1 < s.port.store.l ∧ s.port.store.l ≤ 7 + 1 := by
  refine ⟨ends rfl rfl, by decide +kernel, by decide +kernel, by decide +kernel, by decide, by decide,
    by decide⟩
theorem witness_JoiningHearsItsReply :
    ∀ v : Verdict,
      let s := holding [aim .join 0] none (at_ .joining)
      let f := frame 5 (.reply v 2 0 (Vector.replicate 16 0) params)
      EndsWith (during (hears s f) s) (hears s f) acked ∧ PlaceSound s ∧ (hears s f).driven = none ∧
        frameOf (hears s f) = some f ∧
        (∀ m : Station, f.members.getLsbD m.val = true →
          (windowFields (responsesOf (hears s f) acked))[m] = .ack) ∧
        ¬ (∀ m : Station, f.members.getLsbD m.val = true →
          (windowFields (responsesOf (hears s f) refused))[m] = .ack) := by
  rintro (_ | _ | _ | _) <;>
    exact ⟨ends rfl rfl, by decide +kernel, rfl, by decide +kernel, by decide +kernel, by decide +kernel⟩
theorem witness_JoiningHearsItsReply_other :
    let s := holding [] none (at_ .joining)
    let a := { hears s (frame 5 .beacon) with words := [1, 2] }
    EndsWith (during a s) a acked ∧ PlaceSound s ∧ a.driven = none ∧ frameOf a = none ∧
      frameOf (hears s (frame 5 .beacon)) = some (frame 5 .beacon) ∧
      EndsWith (during (sends s (frame 2 .null)) s) (sends s (frame 2 .null)) acked ∧
      (sends s (frame 2 .null)).driven = some (frame 2 .null) := by
  exact ⟨ends rfl rfl, by decide +kernel, rfl, by decide +kernel, by decide +kernel, ends rfl rfl, rfl⟩
theorem witness_DepartureClearsTheStationsRecords :
    let s := at_ .departing
    let m := at_ .member
    let a := hears s (frame 5 .beacon)
    EndsWith (during a s) a acked ∧ a.stateAtClose = .departing ∧
      s.number.val / 4 < (responsesOf a acked).length ∧
      ¬ s.number.val / 4 < (responsesOf a (.attemptBroken [])).length ∧
      EndsWith (during a s) a (.attemptBroken []) ∧
      (judgementOf m a left2 group).own = some .abstained ∧
      (judgementOf (at_ .leaving) (sends m (frame 2 .leave)) acked group).own = some .left := by
  refine ⟨ends rfl rfl, rfl, by decide, by decide, ⟨rfl, rfl, .inr ⟨_, rfl⟩⟩, by decide +kernel,
    by decide +kernel⟩

/-- Station 2 as the joiner of the group of 2 and 5, its snapshot complete. -/
def joiner2 : Record :=
  ⟨0x0024, Vector.replicate 16 0, 100, params, [], some ⟨2, 5, .admitted, .sending, 0, 0, []⟩⟩


/-- A joiner that diverges and loses its snapshot in one judgement posts both faults, in the order of R163
(R110, R162); a station told DEFERRED holds no purpose, though its own JOIN was judged failed (R105). -/
theorem test_attempt_end_in_syncing_and_joining :
    (let s := (at_ .syncing).setRecord (some joiner2)
     let a := { hears s (frame 9 .beacon) with answer := some (.refuse .head) }
     let t := run (.attemptEnd 0x0090 0x0C00 0 0) (during a s)
     t.port.faults.map FaultRecord.kind = [.memberDeparted, .desync, .joinTimeout] ∧
       t.control.state = .departing) ∧
    (let s := holding [aim .join 0] none (at_ .joining)
     let f := frame 5 (.reply .deferred 2 0 (Vector.replicate 16 0) params)
     (run acked (during (hears s f) s)).agenda.purposes = []) := by decide +kernel

/-- A REFUSE whose word was never strobed is no answer of its own: the station does not conclude that it has
diverged (R34, R57); strobed, it does. -/
theorem test_unstrobed_refusal_is_no_answer :
    let s := (at_ .member).setRecord (some ⟨4, Vector.replicate 16 0, 100, params, [], none⟩)
    let a := { hears s (frame 9 .beacon) with answer := some (.refuse .head) }
    (run (.attemptBroken []) (during a s)).control.state = .member ∧
      (run (.attemptBroken [0x0090]) (during a s)).control.state = .departing := by decide +kernel

/-- The group with station 11 as a fourth member. -/
def group4 : Record := { group with members := 0x0A24 }

theorem witness_JudgementMovesTheStation :
    let s := (at_ .syncing).setRecord (some joiner2)
    let close : Frame := ⟨5, 100, 0x0024, .close 0⟩
    let a := hears s close
    let m := at_ .member
    let q : Purpose := ⟨.leave, 1, 7, none⟩
    let l := holding [q] (some q) (at_ .leaving)
    EndsWith (during a s) a acked ∧ s.judging ∧ PlaceSound s ∧ AgendaSound s ∧
      (judgementOf s a acked joiner2).own = none ∧ (judgementOf s a acked joiner2).applied = true ∧
      JoinsIn 2 joiner2 ∧
      ¬ JoinsIn 2 (judgementOf s a (.attemptEnd 0x0060 0x0C00 0 0) joiner2).record ∧
      (judgementOf s a (.attemptEnd 0x0060 0x0C00 0 0) joiner2).own = none ∧
      (judgementOf (m.setRecord (some group4)) { hears m (frame 5 .beacon) with answer := some (.refuse .head) }
        (.attemptEnd 0x0090 0x0600 0x0606 0) group4).diverged = true ∧
      PlaceSound l ∧ AgendaSound l ∧ (judgementOf l (sends l (frame 2 .leave)) refused group).took = false ∧
      (judgementOf l (sends l (frame 2 .leave)) refused group).own = none ∧
      (judgementOf s a acked joiner2).diverged = false ∧ AccountsSound s ∧ s.agenda.sent = none ∧
      (∀ n : Line, s.origin.lines[n].handle = none) ∧ s.origin.raises = [] := by
  refine ⟨ends rfl rfl, by decide, by decide +kernel, by decide +kernel, by decide +kernel,
    by decide +kernel, ⟨_, rfl, rfl, rfl⟩, ?_, by decide +kernel, by decide +kernel, by decide +kernel,
    by decide +kernel, by decide +kernel, by decide +kernel, by decide +kernel, by decide +kernel, rfl,
    by decide +kernel, rfl⟩
  rintro ⟨j, hj, -⟩
  have : (judgementOf ((at_ .syncing).setRecord (some joiner2))
    (hears ((at_ .syncing).setRecord (some joiner2)) ⟨5, 100, 0x0024, .close 0⟩)
    (.attemptEnd 0x0060 0x0C00 0 0) joiner2).record.join = none := by decide +kernel
  exact absurd (this.symm.trans hj) nofun
theorem witness_AttemptsCountAgainstTheirPurpose :
    ∀ n : Nat, n = 6 ∨ n = 7 →
      let q : Purpose := ⟨.done ⟨0, 95⟩, 1, n, none⟩
      let s := holding [q] (some q) (at_ .member)
      let a := sends s (frame 2 (.done ⟨0, 95⟩))
      EndsWith (during a s) a acked ∧ AgendaSound s ∧ a.driven.isSome ∧ s.agenda.sent = some ⟨q, none⟩ ∧
        q ∈ s.agenda.purposes ∧ (judgementOf s a acked group).took = true ∧
        (judgementOf s a acked group).own = none ∧ (judgementOf s a refused group).took = false ∧
        (judgementOf s a refused group).own = none ∧ (judgementOf s a refused group).diverged = false := by
  rintro n (rfl | rfl) <;>
    exact ⟨ends rfl rfl, by decide +kernel, rfl, rfl, by decide, by decide +kernel, by decide +kernel,
      by decide +kernel, by decide +kernel, by decide +kernel⟩
/-- The same in SYNCING and LEAVING, with the counts below L and at it, and the purposes that follow every
judgement. -/
theorem witness_AttemptsCountAgainstTheirPurpose_elsewhere :
    (∀ n : Nat, n = 6 ∨ n = 7 →
      let q : Purpose := ⟨.leave, 1, n, none⟩
      let s := holding [q] (some q) (at_ .leaving)
      let a := sends s (frame 2 .leave)
      EndsWith (during a s) a refused ∧ PlaceSound s ∧ AgendaSound s ∧ a.driven.isSome ∧
        (judgementOf s a refused group).own = none) ∧
    (let q : Purpose := ⟨.beacon, 1, 0, none⟩
     let s := (holding [q] (some q) (at_ .syncing)).setRecord (some joiner2)
     let a := sends s ⟨2, 100, 0x0024, .beacon⟩
     EndsWith (during a s) a acked ∧ PlaceSound s ∧ AgendaSound s ∧
       (judgementOf s a acked joiner2).own = none ∧ (judgementOf s a acked joiner2).took = true) ∧
    (let s := holding [aim .beacon 0] (some (aim .beacon 0)) (at_ .member)
     let r := joining9 .admitted .sending 1 3
     s.judging ∧
       (judgementOf s (sends s (frame 2 .beacon)) refused group).took = false ∧
       (judgementOf s (sends s (frame 2 .beacon)) refused group).own = none ∧
       (judgementOf s (hears s (frame 5 .beacon)) acked group).own = none ∧
       (judgementOf s (hears s (frame 5 .beacon)) acked r).record.join.map JoinRecord.respondent
        = some 2) := by
  refine ⟨?_, ⟨ends rfl rfl, by decide +kernel, by decide +kernel, by decide +kernel, by decide +kernel⟩,
    by decide, by decide +kernel, by decide +kernel, by decide +kernel, by decide +kernel⟩
  rintro n (rfl | rfl) <;> exact ⟨ends rfl rfl, by decide +kernel, by decide +kernel, rfl, by decide +kernel⟩
theorem witness_OfferTakenGivesTheHandle :
    let q := aim (.offer (.line 1) 4) 1
    let s := line1 { level with state := .want } (holding [q] (some q) (at_ .member))
    let f := frame 2 (.offer 1 0 4 0x0020 none)
    let a := sends s f
    let x := { raised with state := .queued, handle := none }
    EndsWith (during a s) a acked ∧ a.winner = s.number ∧ (judgementOf s a acked group).applied = true ∧
      (judgementOf s a acked group).own = none ∧ s.origin.lines[(1 : Line)].state = .want ∧
      s.origin.lines[(1 : Line)].handle = none ∧ lineActive s 1 = false ∧
      AccountsSound ((s.setOrigin { s.origin with raises := [x] }).setPort
        { s.port with reserved := 1 }) ∧
      (let u := s.setControl { s.control with state := .leaving }
       (judgementOf u a acked group).applied = true ∧ (run acked (during a u)).control.state = .leaving) := by
  refine ⟨ends rfl rfl, rfl, by decide +kernel, by decide +kernel, by decide +kernel, by decide +kernel,
    by decide +kernel, by decide +kernel, by decide +kernel, by decide +kernel⟩

/-- The group with station 2's entry claimed by station 5. -/
def served : Record := { group with entries := [{ own with claimant := some 5 }, mine, wanted] }
/-- The same at the revoke limit. -/
def spent : Record := { group with entries := [{ own with claimant := some 5, revokes := 2 }, mine] }

theorem witness_LinesFollowTheirEntries :
    let s := line1 { level with state := .offered, handle := some ⟨3, 90⟩ } (at_ .member)
    let j := fun (r : Record) (n : Station) (b : Body) (c : Instr) => judgementOf s (hears s (frame n b)) c r
    let own5 := { own with claimant := some 5 }
    EndsWith (during (hears s (frame 5 .beacon)) s) (hears s (frame 5 .beacon)) acked ∧
      s.origin.lines[(1 : Line)].handle = some ⟨3, 90⟩ ∧
      (∀ m : Line, m ≠ 1 → s.origin.lines[m].handle ≠ some ⟨3, 90⟩) ∧ own ∈ group.entries ∧
      own5 ∈ served.entries ∧ served.Ordered ∧ spent.Ordered ∧ own.origin = s.number ∧
      changesOf (j group 5 .beacon acked) ⟨3, 90⟩ = [] ∧
      changesOf (j group 5 (.claim ⟨3, 90⟩) acked) ⟨3, 90⟩ = [⟨own, .claimed 5⟩] ∧
      changesOf (j served 2 (.revoke ⟨3, 90⟩) acked) ⟨3, 90⟩ = [⟨own5, .returnedByRevoke⟩] ∧
      changesOf (j served 9 .beacon (.attemptEnd 0x0060 0x0C00 0x0600 0)) ⟨3, 90⟩ =
        [⟨own5, .returnedByDeparture 5⟩] ∧
      changesOf (j served 5 (.done ⟨3, 90⟩) acked) ⟨3, 90⟩ = [⟨own5, .removedByDone⟩] ∧
      changesOf (j group 2 (.withdraw ⟨3, 90⟩) acked) ⟨3, 90⟩ = [⟨own, .removedByWithdraw⟩] ∧
      changesOf (j spent 2 (.revoke ⟨3, 90⟩) acked) ⟨3, 90⟩ =
        [⟨{ own5 with revokes := 2 }, .removedByRevoke⟩] ∧
      (j group 5 (.claim ⟨3, 90⟩) acked).own = none ∧
      (j group 5 (.claim ⟨3, 90⟩) acked).diverged = false ∧
      (let u := s.setControl { s.control with state := .leaving }
       (run acked (during (hears u (frame 5 (.claim ⟨3, 90⟩))) u)).control.state = .leaving) := by
  refine ⟨ends rfl rfl, ?_⟩
  decide +kernel
theorem witness_RaisesFollowTheirEntries :
    let s := ((at_ .member).setOrigin { Origin.reset with raises := [raised] }).setPort
      { (at_ .member).port with reserved := 1 }
    let j := fun (r : Record) (n : Station) (b : Body) (c : Instr) => judgementOf s (hears s (frame n b)) c r
    let own5 := { own with claimant := some 5 }
    EndsWith (during (hears s (frame 5 .beacon)) s) (hears s (frame 5 .beacon)) acked ∧
      raised.handle = some ⟨3, 90⟩ ∧ (∀ n : Line, s.origin.lines[n].handle ≠ some ⟨3, 90⟩) ∧
      (∀ y ∈ s.origin.raises, y.handle = some ⟨3, 90⟩ → y = raised) ∧ raised ∈ s.origin.raises ∧ AccountsSound s ∧
      s.agenda.sent = none ∧
      changesOf (j group 5 .beacon acked) ⟨3, 90⟩ = [] ∧
      changesOf (j group 5 (.claim ⟨3, 90⟩) acked) ⟨3, 90⟩ = [⟨own, .claimed 5⟩] ∧
      changesOf (j served 2 (.revoke ⟨3, 90⟩) acked) ⟨3, 90⟩ = [⟨own5, .returnedByRevoke⟩] ∧
      changesOf (j served 5 (.done ⟨3, 90⟩) acked) ⟨3, 90⟩ = [⟨own5, .removedByDone⟩] ∧
      changesOf (j group 2 (.withdraw ⟨3, 90⟩) acked) ⟨3, 90⟩ = [⟨own, .removedByWithdraw⟩] ∧
      changesOf (j spent 2 (.revoke ⟨3, 90⟩) acked) ⟨3, 90⟩ =
        [⟨{ own5 with revokes := 2 }, .removedByRevoke⟩] ∧
      (let u := (s.setControl { s.control with state := .leaving }).setPort { s.port with reserved := 2 }
       AccountsSound u ∧
        (run acked (during (hears u (frame 5 (.claim ⟨3, 90⟩))) u)).control.state = .leaving) := by
  refine ⟨ends rfl rfl, ?_⟩
  decide +kernel
theorem witness_GrantsFollowTheirClaims :
    let s := granted1 .inService .member
    let a := hears s (frame 5 (.revoke ⟨0, 95⟩))
    let b := sends s (frame 2 (.claim ⟨7, 96⟩))
    EndsWith (during a s) a acked ∧ s.judging ∧ group.Ordered ∧
      (judgementOf s a acked group).own = none ∧
      entryNamed (judgementOf s a acked group).record ⟨0, 95⟩ = none ∧
      (judgementOf s b acked group).changes = [⟨wanted, .claimed 2⟩] ∧
      entryNamed (judgementOf s b acked group).record ⟨0, 95⟩ = some mine := by
  refine ⟨ends rfl rfl, by decide, by decide +kernel, by decide +kernel, by decide +kernel,
    by decide +kernel, by decide +kernel⟩
theorem witness_EveryStepKeepsThePlace :
    PlaceSound (at_ .member) ∧ step (at_ .member) = .next (tick (at_ .member)) :=
  ⟨by decide +kernel, rfl⟩
theorem witness_EveryStepKeepsTheStationSound :
    Sound (asking [aim .beacon 0]) ∧ (∃ t, step (asking [aim .beacon 0]) = .next t) := by
  refine ⟨⟨?_, by decide +kernel, by decide +kernel, by decide +kernel, by decide +kernel,
    by decide +kernel⟩, _, rfl⟩
  unfold RecordSound
  decide +kernel

end Sys2Proof.Tests
end

section
/-! The judging set and self-diagnosis (chapter 3): who is left after the departures of a list of stations,
who judges after the abstentions, when the sender is blamed, and when a failed attempt shows this station that
its copy has diverged. -/

namespace Sys2Proof.Machine

/-! ### The judging set -/

@[simp] theorem departOne_members (c : DepartureCause) (t : Tally) (n : Station) :
    (departOne c t n).record.members = setDrop t.record.members n := rfl

/-- The departures of a list of stations take those stations out of the member set, and no other (R79). -/
@[simp] theorem setHas_departAll (c : DepartureCause) (l : List Station) (t : Tally) (n : Station) :
    setHas (l.foldl (departOne c) t).record.members n = true ↔ setHas t.record.members n = true ∧ n ∉ l := by
  induction l generalizing t with
  | nil => simp
  | cons k l ih => simp [ih, and_assoc]

@[simp] theorem mem_abstainers {r : Record} {fields : Vector Response 16} {n : Station} :
    n ∈ abstainers r fields ↔ setHas r.members n = true ∧ fields[n] = .abstain := by
  simp [abstainers]

/-- The judging set is the members whose fields do not read ABSTAIN (R48). -/
theorem setHas_afterAbstentions {r : Record} {fields : Vector Response 16} {n : Station} :
    setHas (afterAbstentions r fields).record.members n = true ↔
      setHas r.members n = true ∧ fields[n] ≠ .abstain := by
  unfold afterAbstentions
  rw [setHas_departAll, mem_abstainers]
  exact and_congr_right fun hn => not_congr (and_iff_right hn)

theorem set_ne_zero {m : StationSet} : m ≠ 0 ↔ ∃ n : Station, setHas m n = true := by
  rw [Ne, set_eq_zero, not_forall]
  simp only [Bool.not_eq_false]

theorem set_eq_one {m : StationSet} {k : Station} :
    m = setOne k ↔ ∀ n : Station, setHas m n = true ↔ n = k := by
  constructor
  · rintro rfl n
    simp
  · intro h
    apply set_ext
    intro n
    rw [Bool.eq_iff_iff, h n, setHas_one, decide_eq_true_iff]

/-! ### Blame -/

/-- The others in the words of whoever says which stations the judging set holds (R53). -/
theorem others_eq_filter {m : StationSet} {P : Station → Prop} [DecidablePred P]
    (h : ∀ n, setHas m n = true ↔ P n) (sender : Station) :
    others m sender = (List.finRange 16).filter (fun n => decide (P n) && n != sender) := by
  have hm : setHas m = fun n => decide (P n) := funext fun n => by
    rw [Bool.eq_iff_iff, h n, decide_eq_true_iff]
  rw [others, setList, List.filter_filter, hm]
  exact List.filter_congr fun n _ => Bool.and_comm _ _

/-- The sender is blamed when there is an other and at least half of the others refused (R53). -/
theorem blamed_iff {m : StationSet} {sender : Station} {fields : Vector Response 16} :
    blamed m sender fields = true ↔ others m sender ≠ [] ∧ (others m sender).length ≤
      2 * ((others m sender).filter (fun n => decide (fields[n] = .refuse))).length := by
  simp only [blamed, Bool.and_eq_true, Bool.not_eq_true', List.isEmpty_eq_false_iff, decide_eq_true_iff]
  rfl

/-! ### Self-diagnosis -/

/-- The two conditions of self-diagnosis: in the minority against an unblamed sender, or alone against the
head of a foreign group (R57). -/
theorem divergence_iff {me : Station} {x : Seen} {before after : Record} {m : StationSet} :
    divergence me x before m after = true ↔ x.isSender = false ∧ setHas after.members me = true ∧
      ((x.refusal = some .head ∨ x.refusal = some .content) ∧ ¬ blamed m x.winner x.fields = true ∨
       x.refusal = some .head ∧ m = setOne me ∧ setHas before.members x.winner = false ∧
        ∃ f, x.frame = some f ∧ f.members ≠ 0) := by
  simp [divergence, Option.any_eq_true, and_assoc]

/-- A judgement that no member is left to make ends after the abstentions, with no self-diagnosis (R48). -/
theorem judge_diverged_of_none_left {me : Station} {x : Seen} {r : Record}
    (h0 : (afterAbstentions r x.fields).record.members = 0) :
    (judge me x r).diverged = false := by
  unfold judge
  rw [if_pos h0]

theorem judge_of_taken {me : Station} {x : Seen} {r : Record}
    (h0 : (afterAbstentions r x.fields).record.members ≠ 0)
    (ht : takeTest (afterAbstentions r x.fields).record.members x.fields = true) :
    judge me x r = judgeTaken me x (abstainers r x.fields) (afterAbstentions r x.fields) := by
  unfold judge
  rw [if_neg h0, if_pos ht]

theorem judge_of_failed {me : Station} {x : Seen} {r : Record}
    (h0 : (afterAbstentions r x.fields).record.members ≠ 0)
    (ht : takeTest (afterAbstentions r x.fields).record.members x.fields ≠ true) :
    judge me x r = judgeFailed me x r (afterAbstentions r x.fields) := by
  unfold judge
  rw [if_neg h0, if_neg ht]

/-- Only an attempt that failed with a member left to judge it shows a station that its copy has diverged
(R48, R57). -/
theorem judge_diverged_iff {me : Station} {x : Seen} {r : Record} :
    (judge me x r).diverged = true ↔
      (afterAbstentions r x.fields).record.members ≠ 0 ∧ (judge me x r).took = false ∧
        divergence me x r (afterAbstentions r x.fields).record.members (judge me x r).record = true := by
  by_cases h0 : (afterAbstentions r x.fields).record.members = 0
  · simp [h0, judge_diverged_of_none_left h0]
  by_cases ht : takeTest (afterAbstentions r x.fields).record.members x.fields = true
  · simp [judge_of_taken h0 ht, judgeTaken]
  · rw [judge_of_failed h0 ht]
    exact ⟨fun hd => ⟨h0, rfl, hd⟩, fun ⟨_, _, hd⟩ => hd⟩

end Sys2Proof.Machine

namespace Sys2Proof.Proofs

open Sys2Proof.Machine

/-- Settles O38: a judgement finds divergence by the two conditions of R57 on the copy it leaves, and the
set they speak of is that of the members who did not abstain. -/
theorem divergenceIsConcludedInTheMinority : Obligations.DivergenceIsConcludedInTheMinority := by
  intro me x r
  have hj : ∀ n, setHas (afterAbstentions r x.fields).record.members n = true ↔
      r.members.getLsbD n.val = true ∧ x.fields[n] ≠ .abstain := fun n => setHas_afterAbstentions
  simp only [judge_diverged_iff, divergence_iff, blamed_iff, set_ne_zero, set_eq_one,
    others_eq_filter hj, hj]
  rfl

end Sys2Proof.Proofs
end

section
/-! Result words laid out as the bit strings of R172, from the top field down, and READ_GRANT (R142): the
oldest UNREAD record, the check for a free reservation, and the words of the answer. -/

namespace Sys2Proof.Machine

/-! ### Fields of a result word -/

/-- A field of a result word is a bit string of its own width, moved up to its lowest bit. -/
theorem place_eq_shiftLeft (lo w v : Nat) : place lo w v = (BitVec.ofNat w v).setWidth 32 <<< lo := by
  rw [← BitVec.ofNat_toNat, BitVec.toNat_ofNat, place]

theorem placeBit_eq_shiftLeft (lo : Nat) (b : Bool) :
    placeBit lo b = (BitVec.ofBool b).setWidth 32 <<< lo := by
  rw [placeBit, place_eq_shiftLeft]
  cases b <;> rfl

/-- A field placed right below a bit string that stands in a word is appended to it. -/
theorem shiftLeft_or_place {k : Nat} (x : BitVec k) (lo w v : Nat) :
    x.setWidth 32 <<< (lo + w) ||| place lo w v = (x ++ BitVec.ofNat w v).setWidth 32 <<< lo := by
  rw [place_eq_shiftLeft]
  ext i hi
  simp only [BitVec.getElem_or, BitVec.getElem_shiftLeft, BitVec.getElem_setWidth, BitVec.getLsbD_append]
  by_cases hlo : i < lo
  · simp [hlo, show i < lo + w by omega]
  by_cases hw : i - lo < w
  · simp [hlo, hw, show i < lo + w by omega]
  · simp [hlo, hw, show ¬ i < lo + w by omega, Nat.sub_add_eq,
      BitVec.getLsbD_of_ge _ _ (not_lt.mp hw)]

/-- Bits left 0 below a bit string that stands in a word are appended to it. -/
theorem shiftLeft_add_eq_append {k : Nat} (x : BitVec k) (lo gap : Nat) :
    x.setWidth 32 <<< (lo + gap) = (x ++ 0#gap).setWidth 32 <<< lo := by
  simpa [place] using shiftLeft_or_place x lo gap 0

theorem setWidth_zero_append {k : Nat} (x : BitVec k) (gap : Nat) :
    (0#gap ++ x).setWidth 32 = x.setWidth 32 := by
  apply BitVec.eq_of_toNat_eq
  simp

/-! ### The words of a grant record (R172) -/

theorem grantWords_fst (g : Grant) : (grantWords g).1 =
    0#7 ++ BitVec.ofBool g.payload.isSome ++ 0#3 ++ BitVec.ofNat 5 g.handle.slot.val ++ g.handle.tag := by
  dsimp only [grantWords]
  rw [placeBit_eq_shiftLeft, ← setWidth_zero_append _ 7, shiftLeft_add_eq_append _ 21 3,
    shiftLeft_or_place _ 16 5, shiftLeft_or_place _ 0 16]
  simp

theorem grantWords_snd (g : Grant) : (grantWords g).2.1 =
    0#8 ++ BitVec.ofNat 4 g.origin.val ++ 0#1 ++ g.priority ++ 0#3 ++ g.code := by
  dsimp only [grantWords]
  rw [place_eq_shiftLeft, ← setWidth_zero_append _ 8, shiftLeft_add_eq_append _ 19 1,
    shiftLeft_or_place _ 16 3, shiftLeft_add_eq_append _ 13 3, shiftLeft_or_place _ 0 13]
  simp

/-! ### Answers and free reservations -/

theorem answerCode_takeCommand (code r : Word32) (s : State) :
    answerCode r (takeCommand code s) = answered code r 0 0 0 s := rfl

/-- No reservation is free when those held and the completions queued fill the queue (R159). -/
theorem freeReservations_eq_zero_iff {s : State} :
    freeReservations s = 0 ↔ 16 ≤ s.port.reserved + s.port.completions.length := by
  unfold freeReservations Config.completionDepth
  omega

/-! ### READ_GRANT (R142) -/

theorem exec_readGrant_eq (s : State) : exec .readGrant s = .next (commandReadGrant (takeCommand 7 s)) := rfl

theorem commandReadGrant_of_none_unread {s : State} (h : ∀ g ∈ s.claim.grants, g.state ≠ .unread) :
    commandReadGrant s = answerCode codeEmpty s := by
  have hfind : s.claim.grants.find? (fun g => g.state == .unread) = none := by simpa using h
  rw [commandReadGrant, hfind]

section

/- The grant list splits at its oldest UNREAD record. -/
variable {before after : List Grant} {g : Grant} (hbefore : ∀ x ∈ before, x.state ≠ .unread)
  (hg : g.state = .unread)
include hbefore hg

theorem find_unread_eq_oldest :
    (before ++ g :: after).find? (fun x => x.state == .unread) = some g := by
  rw [List.find?_eq_some_iff_append]
  exact ⟨by simpa using hg, before, after, rfl, by simpa using hbefore⟩

theorem readOldest_eq :
    readOldest (before ++ g :: after) = before ++ { g with state := .inService } :: after := by
  induction before with
  | nil => simp [readOldest, hg]
  | cons x xs ih =>
    obtain ⟨hx, hxs⟩ := List.forall_mem_cons.mp hbefore
    simp [readOldest, hx, ih hxs]

variable {s : State} (hs : s.claim.grants = before ++ g :: after)
include hs

theorem commandReadGrant_of_none_free (hfull : 16 ≤ s.port.reserved + s.port.completions.length) :
    commandReadGrant s = answerCode codeBusy s := by
  rw [commandReadGrant, hs, find_unread_eq_oldest hbefore hg]
  exact if_pos (freeReservations_eq_zero_iff.mpr hfull)

theorem commandReadGrant_of_some_free (hfree : s.port.reserved + s.port.completions.length < 16) :
    commandReadGrant s = answerHost codeAccepted (grantWords g).1 (grantWords g).2.1 (grantWords g).2.2
      (reserve (s.setClaim { s.claim with
        grants := before ++ { g with state := .inService } :: after })) := by
  rw [← readOldest_eq hbefore hg, ← hs, commandReadGrant, hs, find_unread_eq_oldest hbefore hg]
  exact if_neg (mt freeReservations_eq_zero_iff.mp (Nat.not_le.mpr hfree))

end

end Sys2Proof.Machine

namespace Sys2Proof.Proofs

open Sys2Proof.Machine

/-- Settles O11: by the first UNREAD record of the list, if there is one, and then by the free
reservations. -/
theorem readGrantTakesOldestUnread : Obligations.ReadGrantTakesOldestUnread := by
  intro s
  simp only [exec_readGrant_eq]
  refine ⟨fun hnone => ?_, fun before after g hs hbefore hg => ⟨fun hfull => ?_, fun hfree => ?_⟩⟩
  · rw [commandReadGrant_of_none_unread (s := takeCommand 7 s) hnone, answerCode_takeCommand]
    rfl
  · rw [commandReadGrant_of_none_free (s := takeCommand 7 s) hbefore hg hs hfull, answerCode_takeCommand]
    rfl
  · rw [commandReadGrant_of_some_free (s := takeCommand 7 s) hbefore hg hs hfree]
    exact ⟨_, rfl, rfl, grantWords_fst g, grantWords_snd g, rfl⟩

end Sys2Proof.Proofs
end


section
/-! The departure effects (4.10): what one departure and a list of departures make of the member set, the
counts, each entry and the join record. -/

set_option Elab.async false

namespace Sys2Proof.Machine

theorem getLsbD_eq_setHas (m : StationSet) (n : Station) : m.getLsbD n.val = setHas m n := rfl

/-! ### One departure -/

@[simp] theorem departEffects_members (x : Station) (r : Record) :
    (departEffects x r).members = setDrop r.members x := rfl
@[simp] theorem departEffects_seq (x : Station) (r : Record) : (departEffects x r).seq = r.seq := rfl
@[simp] theorem departEffects_params (x : Station) (r : Record) : (departEffects x r).params = r.params := rfl
@[simp] theorem departEffects_join (x : Station) (r : Record) :
    (departEffects x r).join = r.join.bind (departJoin x (setDrop r.members x)) := rfl

@[simp] theorem departEffects_miss (x n : Station) (r : Record) :
    (departEffects x r).miss[n] = if n = x then 0 else r.miss[n] := by
  by_cases h : n = x
  · subst h; simp [departEffects]
  · have hv : x.val ≠ n.val := fun e => h (Fin.ext e.symm)
    simp [departEffects, h, hv]

/-- What becomes of an entry when x departs and leaves the member set `m` behind: claimant's side, then
origin's side (R80, R81). -/
def departEntry (x : Station) (m : StationSet) (e : Entry) : Option Entry :=
  (claimantSide x m e).bind (originSide x)

@[simp] theorem departEffects_entries (x : Station) (r : Record) :
    (departEffects x r).entries = r.entries.filterMap (departEntry x (setDrop r.members x)) := by
  simp only [departEffects, List.filterMap_filterMap]
  rfl

/-- The four ends of an entry at a departure, with the origin read in the member set that stays (R80, R81). -/
theorem departEntry_eq (x : Station) (m : StationSet) (e : Entry) :
    departEntry x (setDrop m x) e =
      if e.claimant = some x then
        if e.orphan = false ∧ e.origin ≠ x ∧ setHas m e.origin = true then some { e with claimant := none }
        else none
      else if e.origin = x ∧ e.orphan = false then
        if e.claimant = none then none else some { e with orphan := true }
      else some e := by
  have hstay : setHas (setDrop m x) e.origin = (setHas m e.origin && !decide (e.origin = x)) := setHas_drop ..
  unfold departEntry claimantSide originSide
  rw [hstay]
  generalize setHas m e.origin = member
  by_cases hc : e.claimant = some x
  · rw [if_pos hc, if_pos hc]
    cases ho : e.orphan <;> cases member <;> by_cases hx : e.origin = x <;> simp [hx]
  · rw [if_neg hc, if_neg hc]
    cases ho : e.orphan <;> cases hcl : e.claimant <;> simp [ho, hcl]

/-- A departure leaves slot and tag of each entry that stays. -/
theorem departEntry_some {x : Station} {m : StationSet} {e e' : Entry} (h : departEntry x m e = some e') :
    e'.slot = e.slot ∧ e'.tag = e.tag ∧ e'.origin = e.origin ∧ e'.revokes = e.revokes ∧
      (e'.orphan = false → e.orphan = false) := by
  unfold departEntry claimantSide originSide at h
  grind

/-! ### A list of departures -/

theorem departAll_record (c : DepartureCause) (l : List Station) (t : Tally) :
    (l.foldl (departOne c) t).record = l.foldl (fun r n => departEffects n r) t.record := by
  induction l generalizing t with
  | nil => rfl
  | cons n l ih => exact ih (departOne c t n)

theorem departAll_departures (c : DepartureCause) (l : List Station) (t : Tally) :
    (l.foldl (departOne c) t).departures = t.departures ++ l.map (fun n => (n, c)) := by
  induction l generalizing t with
  | nil => simp
  | cons n l ih => simp [ih, departOne]

@[simp] theorem departAll_seq (l : List Station) (r : Record) :
    (l.foldl (fun r n => departEffects n r) r).seq = r.seq := by
  induction l generalizing r with
  | nil => rfl
  | cons n l ih => simp [ih]

@[simp] theorem departAll_params (l : List Station) (r : Record) :
    (l.foldl (fun r n => departEffects n r) r).params = r.params := by
  induction l generalizing r with
  | nil => rfl
  | cons n l ih => simp [ih]

@[simp] theorem departAll_miss (l : List Station) (r : Record) (n : Station) :
    (l.foldl (fun r n => departEffects n r) r).miss[n] = if n ∈ l then 0 else r.miss[n] := by
  induction l generalizing r with
  | nil => simp
  | cons k l ih =>
    rw [List.foldl_cons, ih, departEffects_miss]
    by_cases hk : n = k <;> simp [hk]

theorem setHas_departAllEffects (l : List Station) (r : Record) (n : Station) :
    setHas (l.foldl (fun r n => departEffects n r) r).members n = true ↔ setHas r.members n = true ∧ n ∉ l := by
  rw [← departAll_record .abstained l ⟨r, [], []⟩, setHas_departAll]

theorem setList_nodup (m : StationSet) : (setList m).Nodup :=
  (setList_sorted m).imp fun h => ne_of_lt h

/-- What each departure of members keeps, their departures together keep. -/
theorem departAll_induction {P : Record → Prop} (l : List Station) (r : Record) (h : P r) (hl : l.Nodup)
    (hm : ∀ n ∈ l, setHas r.members n = true)
    (hP : ∀ r n, P r → setHas r.members n = true → P (departEffects n r)) :
    P (l.foldl (fun r n => departEffects n r) r) := by
  induction l generalizing r with
  | nil => exact h
  | cons k l ih =>
    obtain ⟨hk, hl⟩ := List.nodup_cons.mp hl
    refine ih _ (hP r k h (hm k (by simp))) hl fun n hn => ?_
    have hne : n ≠ k := fun e => hk (e ▸ hn)
    simp [hm n (by simp [hn]), hne]

end Sys2Proof.Machine
end


section
/-! The laws of the record (chapter 1) apart from the miss counts, and that the departure effects and each
frame that passes its checks keep them at a station that is not the joiner. -/

set_option Elab.async false

namespace Sys2Proof.Machine

/-! ### The laws, spelled for the operations -/

/-- The laws of a join record, by the member set and the number of entries of its copy (R15 to R17). -/
structure JoinRecord.Stands (m : StationSet) (len : Nat) (j : JoinRecord) : Prop where
  respondent : lowestOther m j.joiner = some j.respondent
  joiner : setHas m j.joiner = true ↔ j.verdict = .admitted ∨ j.verdict = .duplicate
  waiting : ∀ w ∈ j.waiting, w.2 ≠ .admitted ∧ (setHas m w.1 = true ↔ w.2 = .duplicate)
  nodup : (j.joiner :: j.waiting.map Prod.fst).Nodup
  replyDue : j.phase = .replyDue → j.cursor = 0 ∧ j.expected = 0
  sending : j.phase = .sending → j.verdict = .admitted ∧ j.cursor ≤ j.expected ∧ j.expected = len

theorem JoinRecord.lawful_iff {r : Record} {j : JoinRecord} :
    j.Lawful r ↔ j.Stands r.members r.entries.length := by
  constructor
  · rintro ⟨hr, hne, hlow, hj, hw, hn, hd, hs⟩
    exact ⟨lowestOther_iff.mpr ⟨hr, hne, hlow⟩, hj, hw, hn, hd, hs⟩
  · rintro ⟨hr, hj, hw, hn, hd, hs⟩
    obtain ⟨hm, hne, hlow⟩ := lowestOther_iff.mp hr
    exact ⟨hm, hne, hlow, hj, hw, hn, hd, hs⟩

/-- The laws of an entry, by the member set and the revoke limit of its copy (R9, R10). -/
structure Entry.Stands (m : StationSet) (v : Nat) (e : Entry) : Prop where
  claimant : ∀ c, e.claimant = some c → setHas m c = true
  offered : e.claimant = none → e.orphan = false
  origin : e.orphan = false → setHas m e.origin = true
  revokes : e.revokes < v

/-- The laws of the record but for the miss counts. -/
structure Record.Stands (r : Record) : Prop where
  ordered : r.Ordered
  entries : ∀ e ∈ r.entries, e.Stands r.members r.params.v
  quota : ∀ n, setHas r.members n = true → quotaCount r n ≤ r.params.q
  e_pos : 0 < r.params.e
  v_pos : 0 < r.params.v
  join : ∀ j, r.join = some j → j.Stands r.members r.entries.length

/-- The law of the miss counts: below E at a member, 0 at any other station (R4). -/
def Record.CountsStand (r : Record) : Prop :=
  ∀ n : Station, if setHas r.members n = true then r.miss[n] < r.params.e else r.miss[n] = 0

theorem Record.lawful_iff {r : Record} : r.Lawful ↔ r.Stands ∧ r.CountsStand := by
  constructor
  · rintro ⟨ho, he, hn, hep, hvp, hj⟩
    refine ⟨⟨ho, fun e h => ?_, fun n hm => ?_, hep, hvp, fun j h => JoinRecord.lawful_iff.mp (hj j h)⟩,
      fun n => ?_⟩
    · obtain ⟨h1, h2, h3, h4⟩ := he e h
      exact ⟨h1, h2, h3, h4⟩
    · have := hn n
      rw [getLsbD_eq_setHas, if_pos hm] at this
      exact this.2
    · have := hn n
      rw [getLsbD_eq_setHas] at this
      split at this <;> simp_all
  · rintro ⟨⟨ho, he, hq, hep, hvp, hj⟩, hn⟩
    refine ⟨ho, fun e h => ?_, fun n => ?_, hep, hvp, fun j h => JoinRecord.lawful_iff.mpr (hj j h)⟩
    · obtain ⟨h1, h2, h3, h4⟩ := he e h
      exact ⟨h1, h2, h3, h4⟩
    · have := hn n
      rw [getLsbD_eq_setHas]
      split <;> rename_i hm
      · exact ⟨by simpa [hm] using this, hq n hm⟩
      · simpa [hm] using this

/-- The counts do not bear on the other laws. -/
theorem Record.Stands.withMiss {r : Record} (h : r.Stands) (seq : Tag) (miss : Vector Nat 16) :
    { r with seq := seq, miss := miss }.Stands :=
  ⟨h.ordered, h.entries, h.quota, h.e_pos, h.v_pos, h.join⟩

/-! ### Departures keep the laws (R78 to R82) -/

theorem lowestOther_setDrop {m : StationSet} {n p x : Station} (h : lowestOther m n = some p) (hx : p ≠ x) :
    lowestOther (setDrop m x) n = some p := by
  rw [lowestOther_iff] at h ⊢
  simp only [getLsbD_eq_setHas, setHas_drop] at h ⊢
  obtain ⟨hp, hn, hle⟩ := h
  exact ⟨by simp [hp, hx], hn, fun q hq hqn => hle q (by simp_all) hqn⟩

/-- The pair promoted when the joiner's part ends makes a lawful join record (R18). -/
theorem endJoinerPart_stands {m : StationSet} {len : Nat} {j j' : JoinRecord} (h : endJoinerPart m j = some j')
    (hw : ∀ w ∈ j.waiting, w.2 ≠ .admitted ∧ (setHas m w.1 = true ↔ w.2 = .duplicate))
    (hn : (j.waiting.map Prod.fst).Nodup) : j'.Stands m len := by
  unfold endJoinerPart at h
  split at h
  · simp at h
  · rename_i n v rest heq
    obtain ⟨p, hp, rfl⟩ := Option.map_eq_some_iff.mp h
    rw [heq, List.forall_mem_cons] at hw
    obtain ⟨⟨hv, hm⟩, hw⟩ := hw
    exact ⟨hp, by simp [hm, show v ≠ .admitted from hv], hw, by simpa [heq] using hn, by simp, by simp⟩

/-- A promoted joiner is not admitted, as no waiting verdict is (R16, R18). -/
theorem endJoinerPart_verdict {m : StationSet} {j j' : JoinRecord} (h : endJoinerPart m j = some j')
    (hw : ∀ w ∈ j.waiting, w.2 ≠ .admitted) : j'.verdict ≠ .admitted := by
  unfold endJoinerPart at h
  split at h
  · simp at h
  · rename_i n v rest heq
    obtain ⟨p, hp, rfl⟩ := Option.map_eq_some_iff.mp h
    exact hw (n, v) (by simp [heq])

/-- The waiting pairs that a departure leaves are those of the other stations. -/
theorem JoinRecord.Stands.waiting_ne {m : StationSet} {len : Nat} {j : JoinRecord} (h : j.Stands m len)
    {x : Station} (hx : setHas m x = true) {w : Station × Verdict}
    (hw : w ∈ j.waiting.filter (fun p => !(p.1 == x && p.2 == .duplicate))) : w.1 ≠ x := by
  rintro rfl
  rw [List.mem_filter] at hw
  have := (h.waiting w hw.1).2.mp hx
  simp [this] at hw

theorem departJoin_stands {x : Station} {m : StationSet} {len len' : Nat} {j j' : JoinRecord}
    (hj : j.Stands m len) (hx : setHas m x = true) (h : departJoin x (setDrop m x) j = some j') :
    j'.Stands (setDrop m x) len' := by
  have hkept : ∀ w ∈ j.waiting.filter (fun p => !(p.1 == x && p.2 == .duplicate)),
      w.2 ≠ .admitted ∧ (setHas (setDrop m x) w.1 = true ↔ w.2 = .duplicate) := fun w hw => by
    have hne := hj.waiting_ne hx hw
    simpa [hne] using hj.waiting w (List.mem_filter.mp hw).1
  have hsub : ((j.waiting.filter (fun p => !(p.1 == x && p.2 == .duplicate))).map Prod.fst).Sublist
      (j.waiting.map Prod.fst) := List.filter_sublist.map _
  have hnodup := List.nodup_cons.mp hj.nodup
  unfold departJoin at h
  dsimp only at h
  split at h
  · exact endJoinerPart_stands h hkept (hnodup.2.sublist hsub)
  · rename_i hjx
    obtain ⟨p, hp, rfl⟩ := Option.map_eq_some_iff.mp h
    have hresp : lowestOther (setDrop m x) j.joiner = some (if j.respondent = x then p else j.respondent) := by
      split
      · exact hp
      · exact lowestOther_setDrop hj.respondent ‹_›
    have hjoiner : setHas (setDrop m x) j.joiner = true ↔ j.verdict = .admitted ∨ j.verdict = .duplicate := by
      simpa [hjx] using hj.joiner
    have hnd : (j.joiner :: (j.waiting.filter (fun p => !(p.1 == x && p.2 == .duplicate))).map Prod.fst).Nodup :=
      hj.nodup.sublist (hsub.cons_cons _)
    by_cases hv : j.verdict = .admitted
    · by_cases hr : j.respondent = x <;> simp only [hr, if_true, if_false, hv] at hresp ⊢ <;>
        exact ⟨hresp, by simpa [hv] using hjoiner, hkept, hnd, by simp, by simp⟩
    · have hsend : j.phase ≠ .sending := fun e => hv (hj.sending e).1
      by_cases hr : j.respondent = x <;> simp only [hr, if_true, if_false, hv] at hresp ⊢ <;>
        exact ⟨hresp, by simpa using hjoiner, hkept, hnd, hj.replyDue, fun e => absurd e hsend⟩

theorem departEntry_stands {x : Station} {m : StationSet} {v : Nat} {e e' : Entry} (he : e.Stands m v)
    (h : departEntry x (setDrop m x) e = some e') : e'.Stands (setDrop m x) v := by
  rw [departEntry_eq] at h
  obtain ⟨hc, ho, hor, hr⟩ := he
  refine ⟨?_, by grind, ?_, by grind⟩ <;> simp only [setHas_drop] <;> grind

theorem departEntries_slots (x : Station) (m : StationSet) (es : List Entry) :
    ((es.filterMap (departEntry x m)).map Entry.slot).Sublist (es.map Entry.slot) := by
  induction es with
  | nil => simp
  | cons e es ih =>
    cases hd : departEntry x m e with
    | none => simpa [List.filterMap_cons, hd] using ih.cons _
    | some e' =>
      have hs : e'.slot = e.slot := (departEntry_some hd).1
      simpa [List.filterMap_cons, hd, hs] using ih

/-- A departure makes no entry count against a quota that did not before. -/
theorem quotaCount_departEffects_le (x n : Station) (r : Record) :
    quotaCount (departEffects x r) n ≤ quotaCount r n := by
  unfold quotaCount
  rw [departEffects_entries]
  induction r.entries with
  | nil => simp
  | cons e es ih =>
    cases hd : departEntry x (setDrop r.members x) e with
    | none =>
      rw [List.filterMap_cons_none hd]
      exact ih.trans (List.Sublist.length_le (List.Sublist.filter _ (List.sublist_cons_self e es)))
    | some e' =>
      obtain ⟨-, -, horigin, -, horphan⟩ := departEntry_some hd
      rw [List.filterMap_cons_some hd, List.filter_cons, List.filter_cons, horigin]
      by_cases he : (e.origin == n && !e'.orphan) = true
      · have he' : (e.origin == n && !e.orphan) = true := by simp_all
        simpa [he, he'] using ih
      · rw [if_neg he]
        split
        · exact ih.trans (by simp)
        · exact ih

theorem departEffects_ordered {x : Station} {r : Record} (h : r.Ordered) : (departEffects x r).Ordered := by
  unfold Record.Ordered
  rw [departEffects_entries]
  exact h.sublist (departEntries_slots _ _ _)

/-- The departure of a member keeps the laws (R79 to R82). -/
theorem departEffects_stands {x : Station} {r : Record} (h : r.Stands) (hx : setHas r.members x = true) :
    (departEffects x r).Stands where
  ordered := departEffects_ordered h.ordered
  entries := fun e' he' => by
    rw [departEffects_entries, List.mem_filterMap] at he'
    obtain ⟨e, he, hd⟩ := he'
    exact departEntry_stands (h.entries e he) hd
  quota := fun n hn => by
    have hm : setHas r.members n = true := by simp_all
    exact (quotaCount_departEffects_le x n r).trans (h.quota n hm)
  e_pos := h.e_pos
  v_pos := h.v_pos
  join := fun j' hj' => by
    rw [departEffects_join, Option.bind_eq_some_iff] at hj'
    obtain ⟨j, hj, hd⟩ := hj'
    exact departJoin_stands (h.join j hj) hx hd

/-- The departures of several members keep the laws. -/
theorem departAll_stands {l : List Station} {r : Record} (h : r.Stands) (hl : l.Nodup)
    (hm : ∀ n ∈ l, setHas r.members n = true) : (l.foldl (fun r n => departEffects n r) r).Stands :=
  departAll_induction l r h hl hm fun _ _ => departEffects_stands

/-- Where x departs from the joiner's seat no admitted joiner follows, and elsewhere the joiner stays (R82). -/
theorem isJoiner_departEffects {me x : Station} {r : Record} (h : r.Stands) (hn : isJoiner me r = false) :
    isJoiner me (departEffects x r) = false := by
  unfold isJoiner
  rw [departEffects_join]
  cases hj : r.join with
  | none => rfl
  | some j =>
    rw [Option.bind_some]
    split
    · rename_i j' hd
      have hw := (h.join j hj).waiting
      unfold departJoin at hd
      dsimp only at hd
      split at hd
      · have := endJoinerPart_verdict hd fun w hw' => (hw w (List.mem_filter.mp hw').1).1
        simp [this]
      · obtain ⟨p, -, rfl⟩ := Option.map_eq_some_iff.mp hd
        simp only [isJoiner, hj] at hn
        split <;> split <;> simpa using hn
    · rfl

end Sys2Proof.Machine
end


section
/-! What the content checks ask (4.2 to 4.8, 6.3 to 6.5), what a frame that passes them does to the copy, and
that it keeps the laws of the record at a station that is not the joiner. -/

set_option Elab.async false

namespace Sys2Proof.Machine

/-! ### Content checks -/

theorem frozen_iff {r : Record} : frozen r = true ↔ ∃ j, r.join = some j ∧ j.verdict = .admitted := by
  unfold frozen
  cases r.join <;> simp

theorem frozen_eq_false_iff {r : Record} : frozen r = false ↔ ∀ j, r.join = some j → j.verdict ≠ .admitted := by
  rw [← Bool.not_eq_true, frozen_iff]
  simp

/-- A frame that acts on an entry passes when a member sends it, no freeze stands, and an entry of the handle
passes the checks of its kind (R62, R63). -/
theorem actsOnEntry_iff {n : Station} {r : Record} (ho : r.Ordered) {h : Handle} {ok : Entry → Bool} :
    actsOnEntry n r h ok = true ↔ (setHas r.members n = true ∧ frozen r = false) ∧
      ∃ e ∈ r.entries, e.slot = h.slot ∧ e.tag = h.tag ∧ ok e = true := by
  simp only [actsOnEntry, Bool.and_eq_true, Bool.not_eq_true', Option.any_eq_true, entryNamed_iff ho, and_assoc]

theorem offerOk_iff {n : Station} {r : Record} {k : Slot} {targets : StationSet} :
    offerOk n r k targets = true ↔ (setHas r.members n = true ∧ frozen r = false) ∧
      (∀ e ∈ r.entries, e.slot ≠ k) ∧ quotaCount r n < r.params.q ∧ targets ≠ 0 := by
  simp [offerOk, and_assoc]

/-! ### What each frame does to the copy -/

@[simp] theorem onEntry_record {t : Tally} {h : Handle} {e : Entry} (he : entryNamed t.record h = some e)
    (f : Record → Entry → Record) (b : Entry → Became) : (onEntry t h f b).record = f t.record e := by
  simp [onEntry, he, Tally.update]

section

variable {r : Record} (hr : r.Stands)
include hr

/-- With no freeze the join record does not speak of the entries, so any lawful entries may stand. -/
theorem Record.Stands.withEntries {es : List Entry} (hf : frozen r = false)
    (ho : (es.map Entry.slot).Nodup) (he : ∀ e ∈ es, e.Stands r.members r.params.v)
    (hq : ∀ n, setHas r.members n = true →
      (es.filter (fun e => e.origin == n && !e.orphan)).length ≤ r.params.q) :
    { r with entries := es }.Stands where
  ordered := ho
  entries := he
  quota := hq
  e_pos := hr.e_pos
  v_pos := hr.v_pos
  join := fun j hj => by
    obtain ⟨h1, h2, h3, h4, h5, h6⟩ := hr.join j hj
    exact ⟨h1, h2, h3, h4, h5, fun hs => absurd (h6 hs).1 (frozen_eq_false_iff.mp hf j hj)⟩

/-- With another join record that stands, the copy stands. -/
theorem Record.Stands.withJoin {oj : Option JoinRecord}
    (hj : ∀ j, oj = some j → j.Stands r.members r.entries.length) : { r with join := oj }.Stands :=
  ⟨hr.ordered, hr.entries, hr.quota, hr.e_pos, hr.v_pos, hj⟩

theorem removeEntry_stands (hf : frozen r = false) (k : Slot) : (removeEntry r k).Stands := by
  refine hr.withEntries hf (hr.ordered.sublist (List.filter_sublist.map _)) (fun e he => ?_) fun n hn => ?_
  · exact hr.entries e (List.mem_filter.mp he).1
  · exact (List.Sublist.length_le (List.filter_sublist.filter _)).trans (hr.quota n hn)

/-- A change of one entry that keeps its slot and origin and leaves it lawful keeps the laws. -/
theorem changeEntry_stands (hf : frozen r = false) (k : Slot) (f : Entry → Entry)
    (hs : ∀ e, (f e).slot = e.slot ∧ (f e).origin = e.origin ∧ (f e).orphan = e.orphan)
    (he : ∀ e ∈ r.entries, e.slot = k → (f e).Stands r.members r.params.v) : (changeEntry r k f).Stands := by
  refine hr.withEntries hf ?_ (fun e' he' => ?_) fun n hn => ?_
  · have := changeEntry_orderList r k f fun e => (hs e).1
    rw [changeEntry] at this
    rw [this]
    exact hr.ordered
  · obtain ⟨e, hmem, rfl⟩ := List.mem_map.mp he'
    split
    · exact he e hmem ‹_›
    · exact hr.entries e hmem
  · rw [List.filter_map, List.length_map]
    refine le_trans (le_of_eq (congrArg List.length (List.filter_congr fun e _ => ?_))) (hr.quota n hn)
    simp only [Function.comp]
    split <;> simp [hs e]

theorem offer_stands {n : Station} {k : Slot} {targets : StationSet} (hok : offerOk n r k targets = true)
    (seq : Tag) (code : Code) (prio : Priority) (p : Option Word32) :
    { r with entries := r.entries ++ [offeredEntry n seq k code prio targets p] }.Stands := by
  obtain ⟨⟨hn, hf⟩, hk, hq, -⟩ := offerOk_iff.mp hok
  refine hr.withEntries hf ?_ (fun e he => ?_) fun m hm => ?_
  · have := hr.ordered
    simp only [List.map_append, List.map_cons, List.map_nil, List.nodup_append, List.mem_map]
    exact ⟨this, by simp, by rintro _ ⟨e, he, rfl⟩ _ hb; simp [offeredEntry] at hb; exact hb ▸ hk e he⟩
  · rcases List.mem_append.mp he with he | he
    · exact hr.entries e he
    · rw [List.mem_singleton.mp he]
      exact ⟨by simp [offeredEntry], by simp [offeredEntry], fun _ => hn, hr.v_pos⟩
  · rw [List.filter_append, List.length_append]
    have hm' := hr.quota m hm
    by_cases hmn : m = n
    · subst hmn
      have : quotaCount r m + 1 ≤ r.params.q := hq
      simpa [offeredEntry, quotaCount] using this
    · have hne : (n == m) = false := by simpa using fun e => hmn (Eq.symm e)
      simpa [offeredEntry, hne, quotaCount] using hm'

theorem claim_stands {n : Station} {h : Handle} {e : Entry} (hn : setHas r.members n = true)
    (hf : frozen r = false) (he : e ∈ r.entries) (hok : claimable n e = true) (hs : e.slot = h.slot) :
    (changeEntry r e.slot (fun x => { x with claimant := some n })).Stands := by
  refine changeEntry_stands hr hf _ _ (fun _ => ⟨rfl, rfl, rfl⟩) fun x hx hxs => ?_
  obtain rfl : x = e := List.inj_on_of_nodup_map hr.ordered hx he hxs
  obtain ⟨h1, h2, h3, h4⟩ := hr.entries x hx
  exact ⟨by rintro c ⟨⟩; exact hn, by simp, h3, h4⟩

theorem revokeEntry_stands {n : Station} {e : Entry} (hf : frozen r = false) (he : e ∈ r.entries)
    (hok : revocable n e = true) : (revokeEntry r e).Stands := by
  unfold revokeEntry
  split
  · rename_i hv
    refine changeEntry_stands hr hf _ _ (fun _ => ⟨rfl, rfl, rfl⟩) fun x hx hxs => ?_
    obtain rfl : x = e := List.inj_on_of_nodup_map hr.ordered hx he hxs
    obtain ⟨h1, h2, h3, h4⟩ := hr.entries x hx
    have ho : x.orphan = false := by simp_all [revocable]
    exact ⟨by simp, fun _ => ho, h3, hv⟩
  · exact removeEntry_stands hr hf _

/-- A JOIN that takes makes a lawful join record, or adds a lawful waiting pair, or changes nothing (R16). -/
theorem joinTakes_stands (n : Station) (p : Params) : (joinTakes n r p).Stands := by
  unfold joinTakes
  dsimp only
  split
  · rename_i j hj
    split
    · exact hr
    · rename_i hnew
      obtain ⟨h1, h2, h3, h4, h5, h6⟩ := hr.join j hj
      refine hr.withJoin fun j' hj' => ?_
      cases hj'
      refine ⟨h1, h2, ?_, ?_, h5, h6⟩
      · intro w hw
        rcases List.mem_append.mp hw with hw | hw
        · exact h3 w hw
        · rw [List.mem_singleton.mp hw]
          simp only [joinVerdict, hj, Option.isSome_some, if_true]
          by_cases hm : setHas r.members n = true <;> by_cases hp : p = r.params <;> simp [hm, hp]
      · rw [Bool.not_eq_true, Bool.or_eq_false_iff, decide_eq_false_iff_not, List.any_eq_false] at hnew
        rw [List.map_append, ← List.cons_append, List.nodup_append]
        refine ⟨h4, by simp, ?_⟩
        rintro a ha b hb rfl
        rw [List.map_singleton, List.mem_singleton] at hb
        subst hb
        rcases List.mem_cons.mp ha with ha | ha
        · exact hnew.1 ha.symm
        · obtain ⟨w, hw, hwn⟩ := List.mem_map.mp ha
          exact hnew.2 w hw (by simpa using hwn)
  · rename_i hj
    split
    · exact hr
    · rename_i resp hresp
      have hv : joinVerdict n r p = if setHas r.members n then .duplicate
          else if p ≠ r.params then .mismatch else .admitted := by simp [joinVerdict, hj]
      split
      · rename_i hadm
        have hm : setHas r.members n = false := by
          cases hm : setHas r.members n <;> simp_all
        obtain ⟨hrm, hrn, hlow⟩ := lowestOther_iff.mp hresp
        have hquota0 : quotaCount r n = 0 := by
          unfold quotaCount
          rw [List.length_eq_zero_iff, List.filter_eq_nil_iff]
          intro e he
          have := (hr.entries e he).origin
          grind
        refine ⟨hr.ordered, fun e he => ?_, fun m hm' => ?_, hr.e_pos, hr.v_pos, fun j' hj' => ?_⟩
        · obtain ⟨h1, h2, h3, h4⟩ := hr.entries e he
          exact ⟨fun c hc => by simp [h1 c hc], h2, fun ho => by simp [h3 ho], h4⟩
        · by_cases hmn : m = n
          · subst hmn
            exact le_trans (le_of_eq hquota0) (Nat.zero_le _)
          · exact hr.quota m (by simpa [hmn] using hm')
        · cases hj'
          refine ⟨lowestOther_iff.mpr ⟨?_, hrn, fun q hq hqn => hlow q ?_ hqn⟩, ?_, by simp, by simp, by simp,
            by simp⟩
          · rw [getLsbD_eq_setHas] at hrm ⊢; simp [hrm]
          · rw [getLsbD_eq_setHas] at hq ⊢; simpa [hqn] using hq
          · simp [hadm]
      · rename_i hadm
        refine hr.withJoin fun j' hj' => ?_
        cases hj'
        refine ⟨hresp, ?_, by simp, by simp, by simp, by simp⟩
        rw [hv] at hadm ⊢
        cases hm : setHas r.members n <;> by_cases hp : p = r.params <;> simp_all

end

/-! ### The frames keep the laws -/

theorem replyTakes_stands {me n m : Station} {r : Record} {v : Verdict} {count : Nat} {miss : Vector Nat 16}
    {p : Params} (hr : r.Stands) (hme : isJoiner me r = false) (hok : replyOk me n r v m count miss p = true) :
    (replyTakes me r count).Stands := by
  unfold replyTakes
  unfold replyOk at hok
  split
  · exact hr
  · rename_i j hj
    rw [hj] at hok
    obtain ⟨h1, h2, h3, h4, h5, h6⟩ := hr.join j hj
    split
    · rename_i w rest hw
      refine hr.withJoin fun j' hj' => ?_
      cases hj'
      rw [hw] at h3 h4
      refine ⟨h1, h2, (List.forall_mem_cons.mp h3).2, ?_, h5, h6⟩
      exact h4.sublist ((List.sublist_cons_self _ _).cons_cons _)
    · rename_i hw
      split
      · rename_i hv
        have hcount : count = r.entries.length := by
          simp [hw, verdictFor, hv, hme] at hok
          grind
        rw [hme]
        refine Record.Stands.withJoin (r := { r with entries := _ }) hr fun j' hj' => ?_
        cases hj'
        exact ⟨h1, h2, h3, h4, by simp, fun _ => ⟨hv, Nat.zero_le _, hcount⟩⟩
      · exact hr.withJoin fun j' hj' =>
          endJoinerPart_stands hj' h3 (List.nodup_cons.mp h4).2

theorem entryTakes_stands {me n : Station} {r : Record} {position : Nat} {e : Entry} (hr : r.Stands)
    (hme : isJoiner me r = false) (hok : entryOk me n r position e = true) : (entryTakes me r e).Stands := by
  unfold entryTakes
  rw [hme]
  refine Record.Stands.withJoin (r := { r with entries := _ }) hr fun j' hj' => ?_
  obtain ⟨j, hj, rfl⟩ := Option.map_eq_some_iff.mp hj'
  obtain ⟨h1, h2, h3, h4, h5, h6⟩ := hr.join j hj
  simp only [entryOk, hj, Bool.and_eq_true, beq_iff_eq, decide_eq_true_eq] at hok
  obtain ⟨⟨⟨⟨-, hphase⟩, -⟩, hlt⟩, -⟩ := hok
  exact ⟨h1, h2, h3, h4, by simp [hphase], fun hs => ⟨(h6 hs).1, hlt, (h6 hs).2.2⟩⟩

theorem closeTakes_stands {r : Record} (hr : r.Stands) : (closeTakes r).Stands :=
  hr.withJoin fun j' hj' => by
    obtain ⟨j, hj, hend⟩ := Option.bind_eq_some_iff.mp hj'
    exact endJoinerPart_stands hend (hr.join j hj).waiting (List.nodup_cons.mp (hr.join j hj).nodup).2

/-- A frame whose contents are valid keeps the laws, at a station that is not the joiner (R65 to R76, R104
to R109). -/
theorem applyBody_stands {me n : Station} {seq : Tag} {t : Tally} {b : Body} (hr : t.record.Stands)
    (hme : isJoiner me t.record = false) (hok : contentOk me n t.record b = true) :
    (applyBody me n seq t b).record.Stands := by
  cases b with
  | null => exact hr
  | beacon => exact hr
  | found p => exact hr
  | leave => exact departEffects_stands hr hok
  | join p => exact joinTakes_stands hr n p
  | reply v m count miss p => exact replyTakes_stands hr hme hok
  | entry position e => exact entryTakes_stands hr hme hok
  | close count => exact closeTakes_stands hr
  | offer k code prio targets p => exact offer_stands hr hok seq code prio p
  | claim h =>
    obtain ⟨⟨hn, hf⟩, e, he, hs, htag, hok⟩ := (actsOnEntry_iff hr.ordered).mp hok
    rw [applyBody, onEntry_record ((entryNamed_iff hr.ordered).mpr ⟨he, hs, htag⟩)]
    exact claim_stands hr hn hf he hok hs
  | done h =>
    obtain ⟨⟨hn, hf⟩, e, he, hs, htag, hok⟩ := (actsOnEntry_iff hr.ordered).mp hok
    rw [applyBody, onEntry_record ((entryNamed_iff hr.ordered).mpr ⟨he, hs, htag⟩)]
    exact removeEntry_stands hr hf _
  | withdraw h =>
    obtain ⟨⟨hn, hf⟩, e, he, hs, htag, hok⟩ := (actsOnEntry_iff hr.ordered).mp hok
    rw [applyBody, onEntry_record ((entryNamed_iff hr.ordered).mpr ⟨he, hs, htag⟩)]
    exact removeEntry_stands hr hf _
  | revoke h =>
    obtain ⟨⟨hn, hf⟩, e, he, hs, htag, hok⟩ := (actsOnEntry_iff hr.ordered).mp hok
    rw [applyBody, onEntry_record ((entryNamed_iff hr.ordered).mpr ⟨he, hs, htag⟩)]
    exact revokeEntry_stands hr hf he hok

end Sys2Proof.Machine
end


section
/-! The steps of a judgement (chapter 3): what abstentions leave, when the attempt takes, what a take and a
failure make of the copy, and that every judgement keeps the laws of the record. -/

set_option Elab.async false

namespace Sys2Proof.Machine

/-! ### Abstentions (R48) -/

/-- The abstainers in the words of the record's mask. -/
theorem abstainers_eq (r : Record) (fields : Vector Response 16) :
    abstainers r fields = (List.finRange 16).filter
      (fun n => r.members.getLsbD n.val && decide (fields[n] = .abstain)) := by
  rw [abstainers, setList, List.filter_filter]
  refine List.filter_congr fun n _ => ?_
  rw [Bool.and_comm, ← getLsbD_eq_setHas]
  rfl

theorem abstainers_nodup (r : Record) (fields : Vector Response 16) : (abstainers r fields).Nodup :=
  (setList_nodup _).filter _

theorem setHas_of_mem_abstainers {r : Record} {fields : Vector Response 16} {n : Station}
    (h : n ∈ abstainers r fields) : setHas r.members n = true := (mem_abstainers.mp h).1

theorem afterAbstentions_record (r : Record) (fields : Vector Response 16) :
    (afterAbstentions r fields).record = (abstainers r fields).foldl (fun r n => departEffects n r) r :=
  departAll_record ..

theorem afterAbstentions_departures (r : Record) (fields : Vector Response 16) :
    (afterAbstentions r fields).departures = (abstainers r fields).map (fun n => (n, .abstained)) := by
  simp [afterAbstentions, departAll_departures]

theorem afterAbstentions_nil {r : Record} {fields : Vector Response 16} (h : abstainers r fields = []) :
    afterAbstentions r fields = ⟨r, [], []⟩ := by simp [afterAbstentions, h]

/-- What the departure of each abstaining member keeps, the abstentions keep. -/
theorem afterAbstentions_induction {P : Record → Prop} {r : Record} {fields : Vector Response 16} (h : P r)
    (hP : ∀ r n, P r → setHas r.members n = true → P (departEffects n r)) :
    P (afterAbstentions r fields).record := by
  rw [afterAbstentions_record]
  exact departAll_induction _ r h (abstainers_nodup r fields) (fun _ => setHas_of_mem_abstainers) hP

theorem afterAbstentions_stands {r : Record} {fields : Vector Response 16} (h : r.Stands) :
    (afterAbstentions r fields).record.Stands :=
  afterAbstentions_induction h fun _ _ => departEffects_stands

theorem afterAbstentions_miss (r : Record) (fields : Vector Response 16) (n : Station) :
    (afterAbstentions r fields).record.miss[n] = if n ∈ abstainers r fields then 0 else r.miss[n] := by
  rw [afterAbstentions_record, departAll_miss]

@[simp] theorem afterAbstentions_seq (r : Record) (fields : Vector Response 16) :
    (afterAbstentions r fields).record.seq = r.seq := by rw [afterAbstentions_record, departAll_seq]

@[simp] theorem afterAbstentions_params (r : Record) (fields : Vector Response 16) :
    (afterAbstentions r fields).record.params = r.params := by rw [afterAbstentions_record, departAll_params]

/-! ### The three ends of a judgement -/

theorem judge_of_none_left {me : Station} {x : Seen} {r : Record}
    (h0 : (afterAbstentions r x.fields).record.members = 0) :
    judge me x r =
      { record := (afterAbstentions r x.fields).record, took := false, applied := false
        departures := (afterAbstentions r x.fields).departures
        changes := (afterAbstentions r x.fields).changes, diverged := false
        own := departureOf me (afterAbstentions r x.fields).departures } := by
  unfold judge
  rw [if_pos h0]

/-- A judgement ends with no member left, with a take, or with a failure (R48, R49). -/
theorem judge_cases (me : Station) (x : Seen) (r : Record) :
    (afterAbstentions r x.fields).record.members = 0 ∨
    ((afterAbstentions r x.fields).record.members ≠ 0 ∧
      takeTest (afterAbstentions r x.fields).record.members x.fields = true ∧
      judge me x r = judgeTaken me x (abstainers r x.fields) (afterAbstentions r x.fields)) ∨
    ((afterAbstentions r x.fields).record.members ≠ 0 ∧
      takeTest (afterAbstentions r x.fields).record.members x.fields ≠ true ∧
      judge me x r = judgeFailed me x r (afterAbstentions r x.fields)) := by
  by_cases h0 : (afterAbstentions r x.fields).record.members = 0
  · exact .inl h0
  by_cases ht : takeTest (afterAbstentions r x.fields).record.members x.fields = true
  · exact .inr (.inl ⟨h0, ht, judge_of_taken h0 ht⟩)
  · exact .inr (.inr ⟨h0, ht, judge_of_failed h0 ht⟩)

theorem takeTest_iff {m : StationSet} {fields : Vector Response 16} :
    takeTest m fields = true ↔ ∀ n : Station, setHas m n = true → fields[n] = .ack := by
  simp [takeTest]

@[simp] theorem judgeTaken_took (me : Station) (x : Seen) (abst : List Station) (t : Tally) :
    (judgeTaken me x abst t).took = true := rfl

@[simp] theorem judgeFailed_took (me : Station) (x : Seen) (before : Record) (t : Tally) :
    (judgeFailed me x before t).took = false := rfl

/-- The attempt takes when a member is left after the abstentions and each that is left reads ACK (R49). -/
theorem judge_took_iff {me : Station} {x : Seen} {r : Record} :
    (judge me x r).took = true ↔ (afterAbstentions r x.fields).record.members ≠ 0 ∧
      takeTest (afterAbstentions r x.fields).record.members x.fields = true := by
  rcases judge_cases me x r with h0 | ⟨h0, ht, hj⟩ | ⟨h0, ht, hj⟩
  · simp [judge_of_none_left h0, h0]
  · simp only [hj, judgeTaken_took, true_iff]
    exact ⟨h0, ht⟩
  · simp [hj, ht]

/-! ### A take (R50) -/

/-- The copy a take works on: the frame applied to it, or not (R50). -/
theorem judgeTaken_cases (me : Station) (x : Seen) (abst : List Station) (t : Tally) :
    (∃ f, x.frame = some f ∧ applies me x abst t.record f = true ∧
      (judgeTaken me x abst t).applied = true ∧
      (judgeTaken me x abst t).record = tookRecord (applyBody me x.winner f.seq t f.body).record ∧
      (judgeTaken me x abst t).departures = (applyBody me x.winner f.seq t f.body).departures ∧
      (judgeTaken me x abst t).changes = (applyBody me x.winner f.seq t f.body).changes) ∨
    ((∀ f, x.frame = some f → applies me x abst t.record f = false) ∧
      (judgeTaken me x abst t).applied = false ∧ (judgeTaken me x abst t).record = tookRecord t.record ∧
      (judgeTaken me x abst t).departures = t.departures ∧ (judgeTaken me x abst t).changes = t.changes) := by
  unfold judgeTaken
  cases hf : x.frame with
  | none => simp
  | some f => cases ha : applies me x abst t.record f <;> simp [ha]

theorem applies_iff {me : Station} {x : Seen} {abst : List Station} {r : Record} {f : Frame} :
    applies me x abst r f = true ↔ x.winner ∉ abst ∧ contentOk me x.winner r f.body = true ∧
      ¬(isAdmittedReply f.body = true ∧ abst ≠ []) := by
  simp only [applies, Bool.and_eq_true, Bool.not_eq_true', List.contains_eq_mem, decide_eq_false_iff_not,
    Bool.and_eq_false_iff, and_assoc]
  grind

@[simp] theorem tookRecord_miss (r : Record) (n : Station) : (tookRecord r).miss[n] = 0 := by
  simp [tookRecord]

theorem tookRecord_countsStand {r : Record} (he : 0 < r.params.e) : (tookRecord r).CountsStand := by
  intro n
  rw [tookRecord_miss]
  split
  · exact he
  · rfl

/-- A frame that is applied leaves sequence and parameters to the take (R50). -/
theorem applyBody_seq_params (me n : Station) (seq : Tag) (t : Tally) (b : Body) :
    (applyBody me n seq t b).record.seq = t.record.seq ∧
      (applyBody me n seq t b).record.params = t.record.params := by
  have hentry : ∀ (h : Handle) (f : Record → Entry → Record) (c : Entry → Became),
      (∀ r e, (f r e).seq = r.seq ∧ (f r e).params = r.params) →
      (onEntry t h f c).record.seq = t.record.seq ∧ (onEntry t h f c).record.params = t.record.params := by
    intro h f c hf
    unfold onEntry
    split
    · exact ⟨rfl, rfl⟩
    · exact hf _ _
  cases b with
  | null | beacon | found _ | leave | offer | entry | close _ => exact ⟨rfl, rfl⟩
  | claim h | done h | withdraw h => exact hentry _ _ _ fun _ _ => ⟨rfl, rfl⟩
  | revoke h => exact hentry _ _ _ fun r e => by unfold revokeEntry; split <;> exact ⟨rfl, rfl⟩
  | join p =>
    simp only [applyBody, Tally.update, joinTakes]
    (repeat' split) <;> exact ⟨rfl, rfl⟩
  | reply v m count miss p =>
    simp only [applyBody, Tally.update, replyTakes]
    (repeat' split) <;> exact ⟨rfl, rfl⟩

/-- Only an admitted joiner, who sent the frame, comes into the member set (R16, R104). -/
theorem setHas_applyBody {me n k : Station} {seq : Tag} {t : Tally} {b : Body}
    (h : setHas (applyBody me n seq t b).record.members k = true) : setHas t.record.members k = true ∨ k = n := by
  have hentry : ∀ (h : Handle) (f : Record → Entry → Record) (c : Entry → Became),
      (∀ r e, (f r e).members = r.members) → (onEntry t h f c).record.members = t.record.members := by
    intro h f c hf
    unfold onEntry
    split
    · rfl
    · exact hf _ _
  cases b with
  | null | beacon | found _ | offer | entry | close _ => exact .inl h
  | claim g | done g | withdraw g =>
    simp only [applyBody] at h
    rw [hentry _ _ _ (by intro r e; rfl)] at h
    exact .inl h
  | revoke g =>
    rw [applyBody, hentry _ _ _ fun r e => by unfold revokeEntry; split <;> rfl] at h
    exact .inl h
  | leave => exact .inl (by simp_all [applyBody])
  | join p =>
    simp only [applyBody, Tally.update, joinTakes] at h
    split at h
    · split at h <;> exact .inl h
    · split at h
      · exact .inl h
      · split at h
        · simpa using h
        · exact .inl h
  | reply v m count miss p =>
    refine .inl ?_
    simp only [applyBody, Tally.update, replyTakes] at h
    split at h
    · exact h
    · split at h
      · exact h
      · split at h <;> exact h

/-- The departures that a frame brings are LEAVEs (R75). -/
theorem applyBody_departures (me n : Station) (seq : Tag) (t : Tally) (b : Body) :
    (applyBody me n seq t b).departures = t.departures ++ (if b = .leave then [(n, .left)] else []) := by
  have hentry : ∀ (h : Handle) (f : Record → Entry → Record) (c : Entry → Became),
      (onEntry t h f c).departures = t.departures := by
    intro h f c
    unfold onEntry
    split <;> rfl
  cases b with
  | null | beacon | found _ | leave | offer | entry | close _ | join _ | reply =>
    simp [applyBody, Tally.update, departOne]
  | claim h | done h | withdraw h | revoke h => simp [applyBody, hentry]

/-- What a frame makes of the copy does not depend on the report so far. -/
theorem applyBody_record_congr (me n : Station) (seq : Tag) {t t' : Tally} (h : t.record = t'.record)
    (b : Body) : (applyBody me n seq t b).record = (applyBody me n seq t' b).record := by
  have hentry : ∀ (g : Handle) (f : Record → Entry → Record) (c c' : Entry → Became),
      (onEntry t g f c).record = (onEntry t' g f c').record := by
    intro g f c c'
    unfold onEntry
    rw [h]
    split <;> simp_all [Tally.update]
  cases b with
  | null | beacon | found _ | leave | offer | entry | close _ | join _ | reply =>
    simp [applyBody, Tally.update, departOne, h]
  | claim g | done g | withdraw g | revoke g => exact hentry _ _ _ _

/-! ### A failure (R53 to R56) -/

theorem reachedE_nodup (r : Record) : (reachedE r).Nodup := (setList_nodup _).filter _

@[simp] theorem mem_reachedE {r : Record} {n : Station} :
    n ∈ reachedE r ↔ setHas r.members n = true ∧ r.params.e ≤ r.miss[n] := by simp [reachedE]

theorem charge_miss (r : Record) (sender n : Station) (fields : Vector Response 16) :
    (charge r sender fields).miss[n] =
      if setHas r.members n = true then
        chargedCount (blamed r.members sender fields) (n == sender) fields[n] r.miss[n]
      else r.miss[n] := by
  simp [charge]

theorem judgeFailed_record (me : Station) (x : Seen) (before : Record) (t : Tally) :
    (judgeFailed me x before t).record = (reachedE (charge t.record x.winner x.fields)).foldl
      (fun r n => departEffects n r) (charge t.record x.winner x.fields) :=
  departAll_record ..

theorem judgeFailed_departures (me : Station) (x : Seen) (before : Record) (t : Tally) :
    (judgeFailed me x before t).departures = t.departures ++
      (reachedE (charge t.record x.winner x.fields)).map (fun n => (n, .evicted)) :=
  departAll_departures ..

/-- A member left stays exactly while its charged count is below E (R56). -/
theorem setHas_judgeFailed {me n : Station} {x : Seen} {before : Record} {t : Tally} :
    setHas (judgeFailed me x before t).record.members n = true ↔ setHas t.record.members n = true ∧
      (charge t.record x.winner x.fields).miss[n] < t.record.params.e := by
  rw [judgeFailed_record, setHas_departAllEffects, mem_reachedE]
  simp only [charge, not_and, not_le]
  exact and_congr_right fun h => by simp [h]

theorem judgeFailed_miss {me n : Station} {x : Seen} {before : Record} {t : Tally}
    (h : setHas (judgeFailed me x before t).record.members n = true) :
    (judgeFailed me x before t).record.miss[n] = (charge t.record x.winner x.fields).miss[n] := by
  rw [setHas_judgeFailed] at h
  rw [judgeFailed_record, departAll_miss, if_neg]
  rw [mem_reachedE]
  exact fun hr => absurd h.2 (not_lt.mpr hr.2)

/-- Every count is below E at the end of every attempt (R4, R56). -/
theorem judge_miss_lt {me n : Station} {x : Seen} {r : Record} (he : 0 < r.params.e)
    (hn : setHas (judge me x r).record.members n = true) : (judge me x r).record.miss[n] < r.params.e := by
  rcases judge_cases me x r with h0 | ⟨h0, ht, hj⟩ | ⟨h0, ht, hj⟩
  · rw [judge_of_none_left h0] at hn
    exact absurd hn (by simp [h0])
  · rw [hj]
    rcases judgeTaken_cases me x (abstainers r x.fields) (afterAbstentions r x.fields) with
      ⟨f, -, -, -, hr, -⟩ | ⟨-, -, hr, -⟩ <;> rw [hr, tookRecord_miss] <;> exact he
  · rw [hj] at hn ⊢
    rw [judgeFailed_miss hn]
    have := (setHas_judgeFailed.mp hn).2
    rwa [afterAbstentions_params] at this

/-! ### The laws of the record -/

theorem tookRecord_stands {r : Record} (h : r.Stands) : (tookRecord r).Stands := h.withMiss _ _

/-- A station outside the member set has the count 0 after every judgement (R4). -/
theorem judgeFailed_miss_outside {me : Station} {x : Seen} {r : Record} (hr : r.CountsStand) {n : Station}
    (hn : ¬ setHas (judgeFailed me x r (afterAbstentions r x.fields)).record.members n = true) :
    (judgeFailed me x r (afterAbstentions r x.fields)).record.miss[n] = 0 := by
  rw [judgeFailed_record, departAll_miss]
  split
  · rfl
  · rename_i hout
    rw [setHas_judgeFailed, afterAbstentions_params] at hn
    have hnot : ¬ setHas (afterAbstentions r x.fields).record.members n = true := by
      intro hm
      refine hout (mem_reachedE.mpr ⟨hm, ?_⟩)
      simpa [charge, hm] using hn
    rw [charge_miss, if_neg hnot, afterAbstentions_miss]
    split
    · rfl
    · rename_i habst
      have hrn : ¬ setHas r.members n = true := by
        intro hm
        rw [mem_abstainers] at habst
        rw [setHas_afterAbstentions] at hnot
        grind
      have := hr n
      rwa [if_neg hrn] at this

theorem isJoiner_afterAbstentions {me : Station} {r : Record} {fields : Vector Response 16} (h : r.Stands)
    (hn : isJoiner me r = false) : isJoiner me (afterAbstentions r fields).record = false :=
  (afterAbstentions_induction (P := fun r => r.Stands ∧ isJoiner me r = false) ⟨h, hn⟩
    fun _ _ h hm => ⟨departEffects_stands h.1 hm, isJoiner_departEffects h.1 h.2⟩).2

/-- Every judgement of a station that is not the joiner keeps the laws, where it leaves a member. -/
theorem judge_lawful {me : Station} {x : Seen} {r : Record} (hs : r.Stands) (hc : r.CountsStand)
    (hn : isJoiner me r = false) (hleft : (judge me x r).record.members ≠ 0) :
    (judge me x r).record.Stands ∧ (judge me x r).record.CountsStand := by
  have hst : (afterAbstentions r x.fields).record.Stands := afterAbstentions_stands hs
  rcases judge_cases me x r with h0 | ⟨h0, ht, hj⟩ | ⟨h0, ht, hj⟩
  · rw [judge_of_none_left h0] at hleft
    exact absurd h0 hleft
  · rw [hj]
    rcases judgeTaken_cases me x (abstainers r x.fields) (afterAbstentions r x.fields) with
      ⟨f, -, happ, -, hr, -⟩ | ⟨-, -, hr, -⟩ <;> rw [hr]
    · have hok := (applies_iff.mp happ).2.1
      have := applyBody_stands (seq := f.seq) hst (isJoiner_afterAbstentions hs hn) hok
      exact ⟨tookRecord_stands this, tookRecord_countsStand this.e_pos⟩
    · exact ⟨tookRecord_stands hst, tookRecord_countsStand hst.e_pos⟩
  · have hfailed : (judgeFailed me x r (afterAbstentions r x.fields)).record.Stands := by
      rw [judgeFailed_record]
      exact departAll_stands (hst.withMiss _ _) (reachedE_nodup _) fun n hn => (mem_reachedE.mp hn).1
    rw [hj]
    refine ⟨hfailed, fun n => ?_⟩
    split
    · rename_i hm
      have hparams : (judgeFailed me x r (afterAbstentions r x.fields)).record.params = r.params := by
        rw [judgeFailed_record, departAll_params]
        exact afterAbstentions_params ..
      have := judge_miss_lt (me := me) (x := x) hs.e_pos (hj ▸ hm)
      rwa [hj, ← hparams] at this
    · exact judgeFailed_miss_outside hc ‹_›

end Sys2Proof.Machine

namespace Sys2Proof.Proofs

open Sys2Proof.Machine

/-- Settles O44: the abstentions keep the laws, the frame that is applied keeps them and so do the evictions;
a take clears every count, and a failure evicts every member whose count has reached E. -/
theorem judgementKeepsTheLawsOfTheRecord : Obligations.JudgementKeepsTheLawsOfTheRecord := by
  intro me x r hr _ hjoiner hleft
  obtain ⟨hs, hc⟩ := Record.lawful_iff.mp hr
  rw [← isJoiner_iff, Bool.not_eq_true] at hjoiner
  exact Record.lawful_iff.mpr (judge_lawful hs hc hjoiner hleft)

end Sys2Proof.Proofs
end


section
/-! The statements on the judgement (chapter 3): the take test, the fields of other stations, the order of
departures, blame and charges, and what a frame beside abstentions does. -/

set_option Elab.async false

namespace Sys2Proof.Machine

/-! ### A judgement reads the members' fields only (R46) -/

section

variable {r : Record} {fields fields' : Vector Response 16}
  (h : ∀ n : Station, setHas r.members n = true → fields'[n] = fields[n])
include h

theorem abstainers_congr : abstainers r fields' = abstainers r fields :=
  List.filter_congr fun n hn => by rw [h n (mem_setList.mp hn)]

theorem takeTest_congr : takeTest r.members fields' = takeTest r.members fields := by
  rw [Bool.eq_iff_iff, takeTest_iff, takeTest_iff]
  exact forall_congr' fun n => forall_congr' fun hn => by rw [h n hn]

theorem blamed_congr (sender : Station) : blamed r.members sender fields' = blamed r.members sender fields := by
  have : (others r.members sender).filter (fun n => decide (fields'[n] = .refuse)) =
      (others r.members sender).filter (fun n => decide (fields[n] = .refuse)) :=
    List.filter_congr fun n hn => by rw [h n (mem_setList.mp (List.mem_filter.mp hn).1)]
  rw [Bool.eq_iff_iff, blamed_iff, blamed_iff, this]

theorem charge_congr (sender : Station) : charge r sender fields' = charge r sender fields := by
  unfold charge
  have hcount : ∀ n : Station,
      (if setHas r.members n = true then
        chargedCount (blamed r.members sender fields) (n == sender) fields'[n] r.miss[n] else r.miss[n]) =
      if setHas r.members n = true then
        chargedCount (blamed r.members sender fields) (n == sender) fields[n] r.miss[n] else r.miss[n] :=
    fun n => by
      split
      · rw [h n ‹_›]
      · rfl
  simp only [blamed_congr h sender, hcount]

end

theorem divergence_congr {me : Station} {x : Seen} {fields : Vector Response 16} {before r after : Record}
    (h : ∀ n : Station, setHas r.members n = true → fields[n] = x.fields[n]) :
    divergence me { x with fields := fields } before r.members after =
      divergence me x before r.members after := by
  unfold divergence
  rw [blamed_congr h]

/-! ### Charges (R54, R55) -/

/-- The count of a judging member after a failed attempt, in the words of R54 and R55. -/
theorem chargedCount_eq (blame isSender : Bool) (answer : Response) (count : Nat) (ha : answer ≠ .abstain) :
    chargedCount blame isSender answer count =
      if isSender = true then if ¬ blame = true ∧ answer = .ack then 0 else count + 1
      else if answer = .ack then 0
      else if answer = .refuse ∧ blame = true then count
      else count + 1 := by
  cases isSender <;> cases blame <;> cases answer <;> simp_all [chargedCount]

/-! ### An attempt that every member acknowledges -/

/-- Where every member reads ACK nobody abstains and the attempt takes: the copy is that of the frame, if its
contents are valid, with the sequence one higher and every count 0 (R49, R50). -/
theorem judge_acked {me : Station} {x : Seen} {r : Record} {f : Frame} (h0 : r.members ≠ 0)
    (hack : ∀ n : Station, r.members.getLsbD n.val = true → x.fields[n] = .ack) (hf : x.frame = some f) :
    (judge me x r).record = tookRecord
      (if contentOk me x.winner r f.body = true then (applyBody me x.winner f.seq ⟨r, [], []⟩ f.body).record
       else r) := by
  have habst : abstainers r x.fields = [] := by
    rw [abstainers, List.filter_eq_nil_iff]
    intro n hn
    rw [hack n (mem_setList.mp hn)]
    decide
  have hleft := afterAbstentions_nil habst
  have htake : takeTest (afterAbstentions r x.fields).record.members x.fields = true := by
    rw [hleft, takeTest_iff]
    exact hack
  rw [judge_of_taken (by rwa [hleft]) htake, hleft, habst]
  have happ : applies me x [] r f = contentOk me x.winner r f.body := by
    rw [Bool.eq_iff_iff, applies_iff]
    simp
  rcases judgeTaken_cases me x [] ⟨r, [], []⟩ with ⟨g, hg, ha, -, hr, -⟩ | ⟨hno, -, hr, -⟩
  · cases hf.symm.trans hg
    rw [hr, if_pos (happ ▸ ha)]
  · rw [hr, if_neg (by rw [← happ, hno f hf]; decide)]

theorem isAdmittedReply_iff {b : Body} :
    isAdmittedReply b = true ↔ ∃ n c m p, b = .reply .admitted n c m p := by
  unfold isAdmittedReply
  split
  · simp
  · rename_i h
    simpa using h

theorem departures_eq_nil_of_failed {me : Station} {x : Seen} {r : Record}
    (ht : (judge me x r).took = false) (hd : (judge me x r).departures = []) :
    (judge me x r).changes = [] ∧ (judge me x r).record = { r with miss := (judge me x r).record.miss } := by
  rcases judge_cases me x r with h0 | ⟨h0, htake, hj⟩ | ⟨h0, htake, hj⟩
  · rw [judge_of_none_left h0] at hd ⊢
    rw [afterAbstentions_departures, List.map_eq_nil_iff] at hd
    rw [afterAbstentions_nil hd]
    exact ⟨rfl, rfl⟩
  · simp [hj] at ht
  · rw [hj] at hd ⊢
    rw [judgeFailed_departures, afterAbstentions_departures, List.append_eq_nil_iff, List.map_eq_nil_iff,
      List.map_eq_nil_iff] at hd
    obtain ⟨habst, hE⟩ := hd
    rw [afterAbstentions_nil habst] at hE ⊢
    dsimp only [judgeFailed]
    rw [hE]
    exact ⟨rfl, rfl⟩

end Sys2Proof.Machine

namespace Sys2Proof.Proofs

open Sys2Proof.Machine

/-- Settles O34: a judgement takes when the take test holds over those left, and only a take moves the
sequence. -/
theorem attemptTakesWhenEveryMemberAcks : Obligations.AttemptTakesWhenEveryMemberAcks := by
  intro me x r
  refine ⟨?_, fun ht => ?_, fun ht => ?_, departures_eq_nil_of_failed⟩
  · rw [judge_took_iff, set_ne_zero, takeTest_iff]
    simp only [getLsbD_eq_setHas, setHas_afterAbstentions]
    refine and_congr_right fun _ => forall_congr' fun n => ?_
    generalize x.fields[n] = answer
    cases answer <;> simp
  · rcases judge_cases me x r with h0 | ⟨-, -, hj⟩ | ⟨-, -, hj⟩
    · simp [judge_of_none_left h0] at ht
    · rw [hj]
      rcases judgeTaken_cases me x (abstainers r x.fields) (afterAbstentions r x.fields) with
        ⟨f, -, -, -, hr, -⟩ | ⟨-, -, hr, -⟩ <;> rw [hr] <;> refine ⟨?_, tookRecord_miss _⟩
      · simp [tookRecord, (applyBody_seq_params ..).1]
      · simp [tookRecord]
    · simp [hj] at ht
  · rcases judge_cases me x r with h0 | ⟨-, -, hj⟩ | ⟨-, -, hj⟩
    · rw [judge_of_none_left h0]
      exact afterAbstentions_seq ..
    · simp [hj] at ht
    · rw [hj, judgeFailed_record, departAll_seq]
      exact afterAbstentions_seq ..

/-- Settles O35: the abstainers, the take test, the blame and the charges read the fields of members only. -/
theorem nonMembersFieldsDoNotCount : Obligations.NonMembersFieldsDoNotCount := by
  intro me x fields r h
  have habst : abstainers r fields = abstainers r x.fields := abstainers_congr h
  have hleft : afterAbstentions r fields = afterAbstentions r x.fields := by
    unfold afterAbstentions
    rw [habst]
  have h' : ∀ n : Station, setHas (afterAbstentions r x.fields).record.members n = true →
      fields[n] = x.fields[n] := fun n hn => h n (setHas_afterAbstentions.mp hn).1
  unfold judge
  dsimp only
  rw [hleft, takeTest_congr h', habst]
  split
  · rfl
  · split
    · rfl
    · unfold judgeFailed
      dsimp only
      rw [charge_congr h', divergence_congr h']

/-- Settles O36: the report begins with the abstainers; what follows are the sender's LEAVE or the evictions,
and only the frame's own sender can come back as a joiner, which an abstainer cannot. -/
theorem abstainersDepartFirst : Obligations.AbstainersDepartFirst := by
  intro me x r abstained
  have heq : abstained = abstainers r x.fields := (abstainers_eq r x.fields).symm
  have hgone : ∀ n ∈ abstainers r x.fields, ¬ setHas (afterAbstentions r x.fields).record.members n = true :=
    fun n hn hm => (setHas_afterAbstentions.mp hm).2 (mem_abstainers.mp hn).2
  rw [heq]
  simp only [getLsbD_eq_setHas, ← Bool.not_eq_true]
  rcases judge_cases me x r with h0 | ⟨h0, ht, hj⟩ | ⟨h0, ht, hj⟩
  · rw [judge_of_none_left h0]
    exact ⟨⟨[], by simp [afterAbstentions_departures], by simp⟩, hgone⟩
  · rw [hj]
    rcases judgeTaken_cases me x (abstainers r x.fields) (afterAbstentions r x.fields) with
      ⟨f, -, happ, -, hr, hd, -⟩ | ⟨-, -, hr, hd, -⟩ <;> rw [hr, hd]
    · rw [applyBody_departures, afterAbstentions_departures]
      refine ⟨⟨_, rfl, by split <;> simp⟩, fun n hn hm => ?_⟩
      rcases setHas_applyBody hm with hm | rfl
      · exact hgone n hn hm
      · exact (applies_iff.mp happ).1 hn
    · exact ⟨⟨[], by simp [afterAbstentions_departures], by simp⟩, hgone⟩
  · rw [hj, judgeFailed_departures, afterAbstentions_departures]
    refine ⟨⟨_, rfl, fun d hd => ?_⟩, fun n hn hm => hgone n hn (setHas_judgeFailed.mp hm).1⟩
    obtain ⟨n, -, rfl⟩ := List.mem_map.mp hd
    simp

/-- Settles O37: in a failed attempt the charged copy has the counts of R54 and R55, and those whose count has
reached E are evicted. -/
theorem blameChargesAndEvictions : Obligations.BlameChargesAndEvictions := by
  intro me x r j judging others refused blame counted
  refine ⟨fun ht n hn => ?_, fun he n hn => judge_miss_lt he hn⟩
  have hleft : setHas (afterAbstentions r x.fields).record.members n = true := setHas_afterAbstentions.mpr hn
  have hj : j = judgeFailed me x r (afterAbstentions r x.fields) := by
    rcases judge_cases me x r with h0 | ⟨-, -, hj⟩ | ⟨-, -, hj⟩
    · simp [h0] at hleft
    · exact absurd ht (by simp [j, hj])
    · exact hj
  have hblame : blamed (afterAbstentions r x.fields).record.members x.winner x.fields = true ↔ blame := by
    rw [blamed_iff, others_eq_filter (P := judging) fun n => setHas_afterAbstentions]
  have hcount : (charge (afterAbstentions r x.fields).record x.winner x.fields).miss[n] = counted n := by
    rw [charge_miss, if_pos hleft, chargedCount_eq _ _ _ _ hn.2, afterAbstentions_miss,
      if_neg fun hm => hn.2 (mem_abstainers.mp hm).2]
    simp only [hblame, beq_iff_eq]
    rfl
  have hstays : setHas j.record.members n = true ↔ counted n < r.params.e := by
    rw [hj, setHas_judgeFailed, hcount, afterAbstentions_params]
    exact and_iff_right hleft
  refine ⟨hstays, fun hm => ?_, fun hm => ?_⟩
  · rw [hj] at hm ⊢
    rw [judgeFailed_miss hm, hcount]
  · have hE : r.params.e ≤ counted n := not_lt.mp fun h => by
      have := hstays.mpr h
      rw [← getLsbD_eq_setHas, hm] at this
      exact absurd this (by decide)
    rw [hj, judgeFailed_departures]
    refine List.mem_append_right _ (List.mem_map.mpr ⟨n, mem_reachedE.mpr ⟨hleft, ?_⟩, rfl⟩)
    rw [hcount]
    simpa [charge] using hE

/-- Settles O41: whether the frame is applied is read from the abstainers and the copy they leave, and what it
makes of that copy is what it makes where nobody abstains. -/
theorem takenWithAbstentionsAppliedOrNot : Obligations.TakenWithAbstentionsAppliedOrNot := by
  intro me x r f ht hf abstained left
  obtain ⟨h0, htake⟩ := judge_took_iff.mp ht
  have hlist : (List.finRange 16).filter (fun n => decide (abstained n)) = abstainers r x.fields := by
    rw [abstainers_eq]
    exact List.filter_congr fun n _ => by simp [abstained]
  have hleft : left = (afterAbstentions r x.fields).record := by
    rw [afterAbstentions_record, ← hlist]
  have hseq : left.seq = r.seq := by rw [hleft]; exact afterAbstentions_seq ..
  have hmem : ∀ n, n ∈ abstainers r x.fields ↔ abstained n := fun n => mem_abstainers
  have hne : abstainers r x.fields ≠ [] ↔ ∃ n, abstained n := by
    rw [Ne, List.eq_nil_iff_forall_not_mem, not_forall]
    exact exists_congr fun n => not_not.trans (hmem n)
  have happ : applies me x (abstainers r x.fields) (afterAbstentions r x.fields).record f = true ↔
      ¬ abstained x.winner ∧ contentOk me x.winner left f.body = true ∧
        ¬((∃ n c m p, f.body = .reply .admitted n c m p) ∧ ∃ n, abstained n) := by
    rw [applies_iff, hmem, hne, isAdmittedReply_iff, hleft]
  rw [judge_of_taken h0 htake]
  rcases judgeTaken_cases me x (abstainers r x.fields) (afterAbstentions r x.fields) with
    ⟨g, hg, ha, happlied, hr, -⟩ | ⟨hno, happlied, hr, -⟩
  · cases hf.symm.trans hg
    refine ⟨by rw [happlied, ← happ, ha], fun _ => ?_, fun hn => absurd (happlied.symm.trans hn) (by decide)⟩
    have hacked := judge_acked (me := me) (x := { x with fields := Vector.replicate 16 .ack }) (f := f)
      (hleft ▸ h0) (fun n _ => by simp) hf
    rw [hacked, if_pos (happ.mp ha).2.1, hr]
    exact congrArg tookRecord (applyBody_record_congr _ _ _ hleft.symm _)
  · refine ⟨by rw [happlied, ← happ, hno f hf], fun hn => absurd (happlied.symm.trans hn) (by decide),
      fun _ => ?_⟩
    rw [hr, ← hleft, tookRecord, hseq]

end Sys2Proof.Proofs
end


section
/-! The statements on the frames (chapter 4, 6.4, 6.5): the content checks kind by kind, what each frame that
takes does to the copy, the departure effects, and that two departures commute. -/

set_option Elab.async false

namespace Sys2Proof.Machine

/-! ### Departures -/

theorem lowestOther_eq_none_iff {m : StationSet} {n : Station} :
    lowestOther m n = none ↔ ∀ p : Station, setHas m p = true → p = n := by
  simp [lowestOther]

theorem lowestOther_eq_find (m : StationSet) (n : Station) :
    lowestOther m n = (List.finRange 16).find? (fun p => m.getLsbD p.val && p != n) := by
  rw [lowestOther, setList, List.find?_filter]
  congr 1
  funext p
  rw [Bool.decide_and, Bool.decide_eq_true, Bool.decide_eq_true]
  rfl

/-- Two departures make the same of an entry in either order, where claimant and origin are lawful (R80,
R81). -/
theorem departEntry_comm {x y : Station} {m : StationSet} {v : Nat} {e : Entry} (he : e.Stands m v) :
    (departEntry y (setDrop m y) e).bind (departEntry x (setDrop (setDrop m y) x)) =
      (departEntry x (setDrop m x) e).bind (departEntry y (setDrop (setDrop m x) y)) := by
  obtain ⟨hc, ho, horigin, -⟩ := he
  by_cases hxy : x = y
  · subst hxy; rfl
  have hyx : ¬ y = x := fun e => hxy e.symm
  obtain ⟨slot, tag, origin, code, priority, targets, claimant, revokes, orphan, payload⟩ := e
  dsimp only at hc ho horigin
  cases claimant with
  | none =>
    obtain rfl := ho rfl
    by_cases hox : origin = x <;> by_cases hoy : origin = y <;> simp [departEntry_eq, hox, hoy, hxy, hyx]
  | some c =>
    cases orphan with
    | true =>
      by_cases hcx : c = x <;> by_cases hcy : c = y <;> simp [departEntry_eq, hcx, hcy, hxy, hyx]
    | false =>
      have hm := horigin rfl
      by_cases hcx : c = x <;> by_cases hcy : c = y <;> by_cases hox : origin = x <;>
        by_cases hoy : origin = y <;> simp_all [departEntry_eq]

theorem vector_ext {α : Type} {k : Nat} {v w : Vector α k} (h : ∀ n : Fin k, v[n] = w[n]) : v = w :=
  Vector.ext fun i hi => h ⟨i, hi⟩

theorem setDrop_comm (m : StationSet) (x y : Station) : setDrop (setDrop m x) y = setDrop (setDrop m y) x :=
  set_ext fun n => by simp [Bool.and_right_comm]

theorem lowestOther_setDrop_none {m : StationSet} {n : Station} (x : Station) (h : lowestOther m n = none) :
    lowestOther (setDrop m x) n = none := by
  rw [lowestOther_eq_none_iff] at h ⊢
  intro p hp
  rw [setHas_drop, Bool.and_eq_true] at hp
  exact h p hp.1

/-- The join record without a waiting pair of x with verdict DUPLICATE (R82). -/
def JoinRecord.without (x : Station) (j : JoinRecord) : JoinRecord :=
  { j with waiting := j.waiting.filter (fun p => !(p.1 == x && p.2 == .duplicate)) }

/-- The join record with respondent p, its snapshot to be sent anew if the joiner was admitted (R82). -/
def JoinRecord.answeredBy (p : Station) (j : JoinRecord) : JoinRecord :=
  if j.verdict = .admitted then { j with respondent := p, phase := .replyDue, cursor := 0, expected := 0 }
  else { j with respondent := p }

/-- Where the respondent is lawful, it is after a departure the lowest member that stays, whoever departed. -/
theorem departJoin_eq {x : Station} {m : StationSet} {len : Nat} {j : JoinRecord} (hj : j.Stands m len) :
    departJoin x (setDrop m x) j =
      if j.joiner = x then endJoinerPart (setDrop m x) (j.without x)
      else (lowestOther (setDrop m x) j.joiner).map fun p => (j.without x).answeredBy p := by
  unfold departJoin
  dsimp only
  split
  · rfl
  · cases hp : lowestOther (setDrop m x) j.joiner with
    | none => rfl
    | some p =>
      have hresp : j.respondent ≠ x → j.respondent = p := fun h => by
        have := lowestOther_setDrop hj.respondent h
        rw [hp] at this
        exact (Option.some.inj this).symm
      by_cases hr : j.respondent = x
      · simp [hr, JoinRecord.answeredBy, JoinRecord.without]
      · simp [hresp hr, JoinRecord.answeredBy, JoinRecord.without]

theorem JoinRecord.without_comm (x y : Station) (j : JoinRecord) : (j.without x).without y = (j.without y).without x := by
  simp [JoinRecord.without, List.filter_filter, Bool.and_comm]

theorem JoinRecord.answeredBy_answeredBy (p q x : Station) (j : JoinRecord) :
    ((j.answeredBy p).without x).answeredBy q = (j.without x).answeredBy q := by
  unfold JoinRecord.answeredBy JoinRecord.without
  split <;> simp_all

@[simp] theorem JoinRecord.answeredBy_joiner (p : Station) (j : JoinRecord) : (j.answeredBy p).joiner = j.joiner := by
  unfold JoinRecord.answeredBy; split <;> rfl

@[simp] theorem JoinRecord.answeredBy_waiting (p : Station) (j : JoinRecord) :
    (j.answeredBy p).waiting = j.waiting := by
  unfold JoinRecord.answeredBy; split <;> rfl

/-- What follows the joiner's part is read from the waiting list alone. -/
theorem endJoinerPart_congr {m : StationSet} {j j' : JoinRecord} (h : j.waiting = j'.waiting) :
    endJoinerPart m j = endJoinerPart m j' := by
  unfold endJoinerPart
  rw [h]

/-- The oldest waiting pair is promoted (R18). -/
def promoted (n : Station) (v : Verdict) (rest : List (Station × Verdict)) (p : Station) : JoinRecord :=
  { joiner := n, respondent := p, verdict := v, phase := .replyDue, cursor := 0, expected := 0, waiting := rest }

theorem endJoinerPart_cons {m : StationSet} {j : JoinRecord} {n : Station} {v : Verdict}
    {rest : List (Station × Verdict)} (h : j.waiting = (n, v) :: rest) :
    endJoinerPart m j = (lowestOther m n).map (promoted n v rest) := by
  unfold endJoinerPart
  rw [h]
  rfl

theorem endJoinerPart_nil {m : StationSet} {j : JoinRecord} (h : j.waiting = []) : endJoinerPart m j = none := by
  unfold endJoinerPart
  rw [h]

theorem endJoinerPart_none {m : StationSet} {j : JoinRecord} (h : ∀ n, lowestOther m n = none) :
    endJoinerPart m j = none := by
  unfold endJoinerPart
  split
  · rfl
  · simp [h]

/-- The joiner's own departure and another's give the same join record in either order. -/
theorem departJoin_comm_joiner {x y : Station} {m : StationSet} {len : Nat} {j : JoinRecord} (hj : j.Stands m len)
    (hx : setHas m x = true) (hy : setHas m y = true) (hxy : x ≠ y) (hjx : j.joiner = x) :
    (departJoin y (setDrop m y) j).bind (departJoin x (setDrop (setDrop m y) x)) =
      (departJoin x (setDrop m x) j).bind (departJoin y (setDrop (setDrop m x) y)) := by
  have hyx : y ≠ x := Ne.symm hxy
  have hleft : (departJoin y (setDrop m y) j).bind (departJoin x (setDrop (setDrop m y) x)) =
      endJoinerPart (setDrop (setDrop m x) y) ((j.without x).without y) := by
    rw [setDrop_comm m x y, JoinRecord.without_comm]
    cases hd : departJoin y (setDrop m y) j with
    | none =>
      rw [departJoin_eq hj, if_neg (fun h => hxy (hjx.symm.trans h)), Option.map_eq_none_iff,
        lowestOther_eq_none_iff, hjx] at hd
      refine (endJoinerPart_none fun n => lowestOther_eq_none_iff.mpr fun p hp => ?_).symm
      rw [setHas_drop, Bool.and_eq_true] at hp
      simpa [hd p hp.1] using hp.2
    | some j' =>
      have hj' : j'.Stands (setDrop m y) len := departJoin_stands hj hy hd
      rw [departJoin_eq hj, if_neg (fun h => hxy (hjx.symm.trans h))] at hd
      obtain ⟨p, -, rfl⟩ := Option.map_eq_some_iff.mp hd
      rw [Option.bind_some, departJoin_eq hj', JoinRecord.answeredBy_joiner,
        if_pos (show (j.without y).joiner = x from hjx)]
      exact endJoinerPart_congr (by simp [JoinRecord.without])
  rw [hleft, departJoin_eq hj, if_pos hjx]
  cases hw : (j.without x).waiting with
  | nil => rw [endJoinerPart_nil hw, endJoinerPart_nil (by rw [JoinRecord.without, hw]; rfl)]; rfl
  | cons w rest =>
    obtain ⟨n, v⟩ := w
    rw [endJoinerPart_cons hw]
    have hpair : (n, v) ∈ j.waiting := (List.mem_filter.mp (hw ▸ List.mem_cons_self)).1
    cases hlow : lowestOther (setDrop m x) n with
    | none =>
      rw [lowestOther_eq_none_iff] at hlow
      refine endJoinerPart_none fun k => lowestOther_eq_none_iff.mpr fun p hp => ?_
      rw [setHas_drop, Bool.and_eq_true] at hp
      have hyn := hlow y (by simp [hy, hyx])
      have hpn := hlow p hp.1
      simp [hpn, hyn] at hp
    | some p =>
      have hj' : (promoted n v rest p).Stands (setDrop m x) len := by
        refine departJoin_stands hj hx ?_
        rw [departJoin_eq hj, if_pos hjx, endJoinerPart_cons hw, hlow]
        rfl
      rw [Option.map_some, Option.bind_some, departJoin_eq hj']
      by_cases hn : n = y
      · subst hn
        have hdup : v = .duplicate := (hj.waiting _ hpair).2.mp hy
        rw [if_pos (show (promoted n v rest p).joiner = n from rfl)]
        refine endJoinerPart_congr ?_
        rw [JoinRecord.without, hw]
        simp [JoinRecord.without, promoted, hdup]
      · rw [if_neg (show (promoted n v rest p).joiner ≠ y from hn), endJoinerPart_cons (n := n) (v := v)
          (rest := rest.filter (fun p => !(p.1 == y && p.2 == .duplicate)))
          (by rw [JoinRecord.without, hw]; simp [hn])]
        refine congrArg (Option.map · _) (funext fun q => ?_)
        unfold JoinRecord.answeredBy
        split <;> rfl

/-- Two departures make the same of the join record in either order (R82). -/
theorem departJoin_comm {x y : Station} {m : StationSet} {len : Nat} {j : JoinRecord} (hj : j.Stands m len)
    (hx : setHas m x = true) (hy : setHas m y = true) :
    (departJoin y (setDrop m y) j).bind (departJoin x (setDrop (setDrop m y) x)) =
      (departJoin x (setDrop m x) j).bind (departJoin y (setDrop (setDrop m x) y)) := by
  by_cases hxy : x = y
  · subst hxy; rfl
  by_cases hjx : j.joiner = x
  · exact departJoin_comm_joiner hj hx hy hxy hjx
  by_cases hjy : j.joiner = y
  · exact (departJoin_comm_joiner hj hy hx (Ne.symm hxy) hjy).symm
  have hboth : ∀ a b, j.joiner ≠ a → j.joiner ≠ b → setHas m a = true →
      (departJoin a (setDrop m a) j).bind (departJoin b (setDrop (setDrop m a) b)) =
        (lowestOther (setDrop (setDrop m a) b) j.joiner).map fun p => ((j.without a).without b).answeredBy p := by
    intro a b ha hb hma
    cases hd : departJoin a (setDrop m a) j with
    | none =>
      rw [departJoin_eq hj, if_neg ha, Option.map_eq_none_iff] at hd
      simp [lowestOther_setDrop_none b hd]
    | some j' =>
      have hj' : j'.Stands (setDrop m a) len := departJoin_stands hj hma hd
      rw [departJoin_eq hj, if_neg ha] at hd
      obtain ⟨p, -, rfl⟩ := Option.map_eq_some_iff.mp hd
      rw [Option.bind_some, departJoin_eq hj', JoinRecord.answeredBy_joiner]
      rw [if_neg (show (j.without a).joiner ≠ b from hb)]
      simp only [JoinRecord.answeredBy_answeredBy]
      rfl
  rw [hboth y x hjy hjx hy, hboth x y hjx hjy hx, setDrop_comm, JoinRecord.without_comm]

/-! ### Frames that act on an entry -/

section

variable {me n : Station} {seq : Tag} {r : Record} {h : Handle} {e : Entry}
  (ho : r.Ordered) (he : e ∈ r.entries) (hs : e.slot = h.slot) (ht : e.tag = h.tag)
include ho he hs ht

theorem applyBody_claim_record : (applyBody me n seq ⟨r, [], []⟩ (.claim h)).record =
    changeEntry r h.slot (fun x => { x with claimant := some n }) := by
  rw [applyBody, onEntry_record ((entryNamed_iff ho).mpr ⟨he, hs, ht⟩), hs]

theorem applyBody_done_record :
    (applyBody me n seq ⟨r, [], []⟩ (.done h)).record = removeEntry r h.slot := by
  rw [applyBody, onEntry_record ((entryNamed_iff ho).mpr ⟨he, hs, ht⟩), hs]

theorem applyBody_withdraw_record :
    (applyBody me n seq ⟨r, [], []⟩ (.withdraw h)).record = removeEntry r h.slot := by
  rw [applyBody, onEntry_record ((entryNamed_iff ho).mpr ⟨he, hs, ht⟩), hs]

theorem applyBody_revoke_record :
    (applyBody me n seq ⟨r, [], []⟩ (.revoke h)).record = revokeEntry r e := by
  rw [applyBody, onEntry_record ((entryNamed_iff ho).mpr ⟨he, hs, ht⟩)]

end

/-! ### The snapshot's frames (R107 to R109) -/

section

variable {me n : Station} {r : Record} {j : JoinRecord} (hj : r.join = some j)
include hj

theorem isJoiner_iff_of_join : isJoiner me r = true ↔ j.joiner = me ∧ j.verdict = .admitted := by
  simp [isJoiner, hj]

theorem replyOk_iff {v : Verdict} {m : Station} {count : Nat} {miss : Vector Nat 16} {p : Params} :
    replyOk me n r v m count miss p = true ↔ n = j.respondent ∧ miss = r.miss ∧ p = r.params ∧
      (v = .admitted → isJoiner me r = true ∨ count = r.entries.length) ∧ (v ≠ .admitted → count = 0) ∧
      (match j.waiting with
       | w :: _ => m = w.1 ∧ v = w.2
       | [] => m = j.joiner ∧ v = j.verdict ∧ j.phase = .replyDue) := by
  have hcount : (if v = .admitted then isJoiner me r || count == r.entries.length else count == 0) = true ↔
      (v = .admitted → isJoiner me r = true ∨ count = r.entries.length) ∧ (v ≠ .admitted → count = 0) := by
    split <;> rename_i hv <;> simp [hv]
  simp only [replyOk, hj, Bool.and_eq_true, hcount, beq_iff_eq]
  generalize (v = .admitted → isJoiner me r = true ∨ count = r.entries.length) = a
  generalize (v ≠ .admitted → count = 0) = b
  cases hw : j.waiting <;> simp [stationToTell, verdictFor, hw] <;> tauto

theorem entryOk_iff {position : Nat} {e : Entry} :
    entryOk me n r position e = true ↔ n = j.respondent ∧ j.phase = .sending ∧ position = j.cursor ∧
      j.cursor < j.expected ∧ (isJoiner me r = true → ∀ y ∈ r.entries, y.slot ≠ e.slot) ∧
      (¬ isJoiner me r = true → r.entries[position]? = some e) := by
  simp only [entryOk, hj]
  cases isJoiner me r <;> simp [and_assoc]

theorem closeOk_iff {count : Nat} :
    closeOk me n r count = true ↔ n = j.respondent ∧ j.phase = .sending ∧ j.expected ≤ j.cursor ∧
      count = j.expected ∧ (isJoiner me r = true → count = r.entries.length) := by
  simp only [closeOk, hj]
  cases isJoiner me r <;> simp [and_assoc]

end

end Sys2Proof.Machine

namespace Sys2Proof.Proofs

open Sys2Proof.Machine

/-- Settles O39: kind by kind, what acts on an entry by the one rule of R62 and R63. -/
theorem contentChecksOfMemberKinds : Obligations.ContentChecksOfMemberKinds := by
  intro me n r ho may
  have hmay : (setHas r.members n = true ∧ frozen r = false) ↔ may := and_congr_right fun _ => frozen_eq_false_iff
  refine ⟨fun k code prio targets payload => ?_, fun h => ?_, fun h => ?_, fun h => ?_, fun h => ?_,
    Iff.rfl, Iff.rfl, rfl, fun _ => rfl, fun _ => rfl, fun hj => ⟨fun v m count miss p => ?_,
    fun position e => ?_, fun count => ?_⟩⟩
  · rw [← hmay]
    exact offerOk_iff
  · simp only [contentOk, actsOnEntry_iff ho, hmay, claimable, Bool.and_eq_true, Option.isNone_iff_eq_none]
    rfl
  · simp only [contentOk, actsOnEntry_iff ho, hmay, doneable, beq_iff_eq]
  · simp only [contentOk, actsOnEntry_iff ho, hmay, withdrawable, Bool.and_eq_true, Option.isNone_iff_eq_none,
      beq_iff_eq]
  · simp only [contentOk, actsOnEntry_iff ho, hmay, revocable, Bool.and_eq_true, Option.isSome_iff_ne_none,
      beq_iff_eq, Bool.not_eq_true', and_assoc]
  · simp [contentOk, replyOk, hj]
  · simp [contentOk, entryOk, hj]
  · simp [contentOk, closeOk, hj]

/-- Settles O40: an acknowledged frame is applied when its contents are valid, and each kind's effect is read
from the entry its handle names. -/
theorem takenFramesChangeTheirEntry : Obligations.TakenFramesChangeTheirEntry := by
  intro me x r f ho h0 hack hf after
  have hafter : after = tookRecord _ := judge_acked h0 hack hf
  rw [hafter]
  refine ⟨fun hok => by rw [if_neg (by simp [hok])]; rfl, fun hok => ?_⟩
  rw [if_pos hok]
  refine ⟨fun k code prio targets payload hb => by rw [hb]; rfl, fun h hb => ?_, fun h hb => ?_,
    fun h hb e he hs => ?_, fun hb => by rcases hb with hb | hb <;> rw [hb] <;> rfl, fun hb => by rw [hb]; rfl⟩
  · rw [hb] at hok ⊢
    obtain ⟨-, e, he, hs, ht, -⟩ := (actsOnEntry_iff ho).mp hok
    rw [applyBody_claim_record ho he hs ht]
    rfl
  · rcases hb with hb | hb <;> rw [hb] at hok ⊢ <;>
      obtain ⟨-, e, he, hs, ht, -⟩ := (actsOnEntry_iff ho).mp hok
    · rw [applyBody_done_record ho he hs ht]
      rfl
    · rw [applyBody_withdraw_record ho he hs ht]
      rfl
  · rw [hb] at hok ⊢
    obtain ⟨-, e', he', hs', ht, -⟩ := (actsOnEntry_iff ho).mp hok
    obtain rfl : e' = e := List.inj_on_of_nodup_map ho he' he (hs'.trans hs.symm)
    rw [applyBody_revoke_record ho he hs ht, revokeEntry, hs]
    split <;> rfl

/-- Settles O42: the entry's four ends, and the join record by whether its joiner departs. -/
theorem departureEffectsByEntryAndRole : Obligations.DepartureEffectsByEntryAndRole := by
  intro x r after stays lowest
  have hstays : ∀ n, setHas (setDrop r.members x) n = true ↔ stays n := fun n => by
    rw [setHas_drop, Bool.and_eq_true, Bool.not_eq_true', decide_eq_false_iff_not]
    exact and_comm
  have hlow : ∀ j p, lowest j p → lowestOther (setDrop r.members x) j = some p := fun j p h => by
    rw [lowestOther_iff]
    simpa only [getLsbD_eq_setHas, hstays] using h
  have hnone : ∀ j, (∀ p, stays p → p = j) → lowestOther (setDrop r.members x) j = none := fun j h => by
    rw [lowestOther_eq_none_iff]
    simpa only [hstays] using h
  refine ⟨hstays, fun n => departEffects_miss x n r, rfl, rfl, ?_, fun hj => by simp [after, hj], fun j hj => ?_⟩
  · rw [departEffects_entries]
    congr 1
    funext e
    rw [departEntry_eq]
    refine if_congr Iff.rfl (if_congr ?_ rfl rfl) rfl
    exact and_congr_right fun _ => Iff.rfl
  · have hafter : after.join = departJoin x (setDrop r.members x) j := by simp [after, hj]
    have hwait : j.waiting.filter (fun w => !(decide (w.1 = x) && decide (w.2 = .duplicate))) =
        j.waiting.filter (fun p => !(p.1 == x && p.2 == .duplicate)) := rfl
    dsimp only
    rw [hafter, hwait]
    unfold departJoin
    dsimp only
    refine ⟨fun hjx => ⟨fun p hp => ?_, fun hall => ?_⟩, fun hjx => ⟨fun hw => ?_, fun w rest hw => ⟨fun p hp => ?_,
      fun hall => ?_⟩⟩⟩
    · rw [if_neg hjx, hlow _ _ hp]
      by_cases hr : j.respondent = x <;> by_cases hv : j.verdict = .admitted <;> simp [hr, hv]
    · rw [if_neg hjx, hnone _ hall]
      rfl
    · rw [if_pos hjx, endJoinerPart_nil]
      exact hw
    · rw [if_pos hjx, endJoinerPart_cons (n := w.1) (v := w.2) (rest := rest) hw, hlow _ _ hp]
      rfl
    · rw [if_pos hjx, endJoinerPart_cons (n := w.1) (v := w.2) (rest := rest) hw, hnone _ hall]
      rfl

/-- Settles O43: member set, counts, each entry and the join record come out alike in either order. -/
theorem departuresCommute : Obligations.DeparturesCommute := by
  intro x y r hr hx hy
  have hs := (Record.lawful_iff.mp hr).1
  have hmiss : (departEffects x (departEffects y r)).miss = (departEffects y (departEffects x r)).miss := by
    refine vector_ext fun n => ?_
    simp only [departEffects_miss]
    split <;> split <;> rfl
  have hentries : (departEffects x (departEffects y r)).entries =
      (departEffects y (departEffects x r)).entries := by
    simp only [departEffects_entries, departEffects_members, List.filterMap_filterMap]
    exact List.filterMap_congr fun e he => departEntry_comm (hs.entries e he)
  have hjoin : (departEffects x (departEffects y r)).join = (departEffects y (departEffects x r)).join := by
    simp only [departEffects_join, departEffects_members, Option.bind_assoc]
    cases hj : r.join with
    | none => rfl
    | some j => exact departJoin_comm (hs.join j hj) hx hy
  have hmembers := setDrop_comm r.members y x
  generalize hu : departEffects x (departEffects y r) = u at *
  generalize hv : departEffects y (departEffects x r) = v at *
  have hm : u.members = v.members := by rw [← hu, ← hv]; exact hmembers
  have hseq : u.seq = v.seq := by rw [← hu, ← hv]; rfl
  have hp : u.params = v.params := by rw [← hu, ← hv]; rfl
  cases u; cases v
  simp_all

/-- Settles O45: the verdict of a JOIN is that of R104, and by the join record that stands it starts one,
waits, or changes nothing. -/
theorem joinTakesByVerdict : Obligations.JoinTakesByVerdict := by
  intro me x r f p h0 hack hf hb after with' member verdict
  have hafter : after = tookRecord (joinTakes x.winner r p) := by
    have := judge_acked (me := me) h0 hack hf
    rw [hb, if_pos (show contentOk me x.winner r (.join p) = true from rfl)] at this
    exact this
  have hverdict : joinVerdict x.winner r p = verdict r.join.isSome := rfl
  rw [hafter]
  refine ⟨fun j hj => ⟨fun hnamed => ?_, fun hjn hwn => ?_⟩, fun hj hall => ?_, fun hj q hq hqn hlow => ?_⟩
  · have : (j.joiner = x.winner || j.waiting.any (fun w => w.1 == x.winner)) = true := by
      rw [Bool.or_eq_true, decide_eq_true_iff, List.any_eq_true]
      refine hnamed.imp_right fun hw => ?_
      obtain ⟨w, hw, hww⟩ := List.mem_map.mp hw
      exact ⟨w, hw, beq_iff_eq.mpr hww⟩
    rw [joinTakes, hj]
    dsimp only
    rw [if_pos this, tookRecord, ← hj]
  · have : (j.joiner = x.winner || j.waiting.any (fun w => w.1 == x.winner)) = false := by
      rw [Bool.or_eq_false_iff, decide_eq_false_iff_not, List.any_eq_false]
      exact ⟨hjn, fun w hw hww => hwn (List.mem_map.mpr ⟨w, hw, by simpa using hww⟩)⟩
    rw [joinTakes, hj]
    dsimp only
    rw [this, hverdict, hj]
    rfl
  · rw [joinTakes, hj]
    dsimp only
    rw [lowestOther_eq_none_iff.mpr hall]
    simp [tookRecord, with', hj]
  · rw [joinTakes, hj]
    dsimp only
    rw [lowestOther_iff.mpr ⟨hq, hqn, hlow⟩, hverdict, hj]
    dsimp only [Option.isSome_none]
    split <;> rename_i hv <;> simp [tookRecord, with', setAdd, setOne]

/-- Settles O46: the checks of the three frames at a member and at the joiner, and what they make of the join
record, of the joiner's entries, and of the waiting list. -/
theorem snapshotFramesMoveTheJoinRecord : Obligations.SnapshotFramesMoveTheJoinRecord := by
  intro me x r f j h0 hack hf hj joiner after ok with' promotedOf
  have hjoiner : isJoiner me r = true ↔ joiner := isJoiner_iff_of_join hj
  have hafter : ok → after = tookRecord (applyBody me x.winner f.seq ⟨r, [], []⟩ f.body).record := fun hok => by
    have := judge_acked (me := me) h0 hack hf
    rw [if_pos hok] at this
    exact this
  refine ⟨fun v n count miss p hb => ?_, fun position e hb => ?_, fun count hb => ?_⟩
  · have hok : ok ↔ _ := (show ok ↔ replyOk me x.winner r v n count miss p = true by
      simp only [ok, hb, contentOk]).trans (replyOk_iff hj)
    refine ⟨by rw [hjoiner] at hok; exact hok, fun h w rest hw => ?_, fun h hw hv => ?_, fun h hw hv => ?_⟩ <;>
      rw [hafter h, hb] <;> simp only [applyBody, Tally.update, replyTakes, hj, hw]
    · rfl
    · obtain ⟨-, -, -, -, -, hname⟩ := hok.mp h
      rw [hw] at hname
      simp only [if_pos (hname.2.1.symm.trans hv), hjoiner]
      rfl
    · obtain ⟨-, -, -, -, -, hname⟩ := hok.mp h
      rw [hw] at hname
      simp only [if_neg fun hadm => hv (hname.2.1.trans hadm), endJoinerPart_nil hw]
      rfl
  · have hok : ok ↔ _ := (show ok ↔ entryOk me x.winner r position e = true by
      simp only [ok, hb, contentOk]).trans (entryOk_iff hj)
    refine ⟨by rw [hok, hjoiner], fun h => ?_⟩
    rw [hafter h, hb]
    simp only [applyBody, Tally.update, entryTakes, hj, hjoiner]
    rfl
  · have hok : ok ↔ _ := (show ok ↔ closeOk me x.winner r count = true by
      simp only [ok, hb, contentOk]).trans (closeOk_iff hj)
    refine ⟨by rw [hok, hjoiner], fun h => ?_⟩
    have hpromoted : endJoinerPart r.members j = promotedOf := by
      simp only [endJoinerPart, lowestOther_eq_find, promotedOf]
      cases j.waiting <;> rfl
    rw [hafter h, hb, ← hpromoted]
    simp only [applyBody, Tally.update, closeTakes, hj, Option.bind_some]
    rfl

end Sys2Proof.Proofs
end


section
/-! Frames and the response window as words (chapter 10): where each field lies, that what is written reads
back, and when a frame is good. -/

set_option Elab.async false

namespace Sys2Proof.Machine

/-! ### Fields of a word -/

/-- The lowest field of a word. -/
theorem field_append_low {n m : Nat} (a : BitVec n) (b : BitVec m) : field 0 m (a ++ b) = b := by
  rw [field, BitVec.extractLsb'_append_eq_of_add_le (by omega), BitVec.extractLsb'_eq_self]

/-- A field above the lowest `m` bits of a word. -/
theorem field_append_high {n m : Nat} (lo k : Nat) (a : BitVec n) (b : BitVec m) (h : m ≤ lo) :
    field lo k (a ++ b) = field (lo - m) k a := by
  rw [field, BitVec.extractLsb'_append_eq_of_le h]
  rfl

theorem field_self {n : Nat} (a : BitVec n) : field 0 n a = a := by rw [field, BitVec.extractLsb'_eq_self]

@[simp] theorem stationOf_stationBits (n : Station) : stationOf (stationBits n) = n := rfl
@[simp] theorem slotOf_slotBits (k : Slot) : slotOf (slotBits k) = k := rfl
@[simp] theorem verdictOf_verdictBits (v : Verdict) : verdictOf (verdictBits v) = v := by cases v <;> rfl

/-! ### The response window (R33, R171) -/

/-- The four bits of a field are its code part and its inverted part. -/
theorem readField_append (code copy : BitVec 2) :
    (code = 0 ∧ copy = 0 → readField (code ++ copy) = .silent) ∧
    (code = 1 ∧ copy = 2 → readField (code ++ copy) = .ack) ∧
    (code = 2 ∧ copy = 1 → readField (code ++ copy) = .refuse) ∧
    (code = 3 ∧ copy = 0 → readField (code ++ copy) = .abstain) ∧
    (copy ≠ ~~~code → ¬(code = 0 ∧ copy = 0) → readField (code ++ copy) = .refuse) := by
  revert code copy
  decide

theorem field_four_eq_append (w : Word16) (k : Nat) :
    field (12 - 4 * (k % 4)) 4 w =
      w.extractLsb' (14 - 4 * (k % 4)) 2 ++ w.extractLsb' (12 - 4 * (k % 4)) 2 := by
  have : 14 - 4 * (k % 4) = 12 - 4 * (k % 4) + 2 := by omega
  rw [this]
  ext i hi
  simp only [field, BitVec.getElem_extractLsb']
  grind

theorem windowField_strobed {ws : List Word16} {n : Station} {w : Word16} (h : ws[n.val / 4]? = some w) :
    windowField ws n = readField (field (12 - 4 * (n.val % 4)) 4 w) := by
  rw [windowField, h]

theorem windowField_unstrobed {ws : List Word16} {n : Station} (h : ws.length ≤ n.val / 4) :
    windowField ws n = .refuse := by
  rw [windowField, List.getElem?_eq_none h]

@[simp] theorem windowFields_get (ws : List Word16) (n : Station) :
    (windowFields ws)[n] = windowField ws n := by simp [windowFields]

/-- What a station reads in the field of a station that has given the answer. -/
def Answer.read : Answer → Response
  | .silent => .silent
  | .ack => .ack
  | .refuse _ => .refuse
  | .abstain => .abstain

theorem readField_driven (a : Answer) : readField a.driven = a.read := by cases a <;> rfl

/-- The fields of a window word, from the highest down. -/
theorem field_of_four (a b c d : BitVec 4) :
    field 12 4 (a ++ b ++ c ++ d) = a ∧ field 8 4 (a ++ b ++ c ++ d) = b ∧
    field 4 4 (a ++ b ++ c ++ d) = c ∧ field 0 4 (a ++ b ++ c ++ d) = d := by
  refine ⟨?_, ?_, ?_, field_append_low _ _⟩
  · rw [field_append_high _ _ _ _ (by decide), field_append_high _ _ _ _ (by decide),
      field_append_high _ _ _ _ (by decide), field_self]
  · rw [field_append_high _ _ _ _ (by decide), field_append_high _ _ _ _ (by decide), field_append_low]
  · rw [field_append_high _ _ _ _ (by decide), field_append_low]

end Sys2Proof.Machine

namespace Sys2Proof.Proofs

open Sys2Proof.Machine

/-- Settles O29: the field of station n lies in word n / 4, and reads by the table of its two parts. -/
theorem responseFieldsReadAsDriven : Obligations.ResponseFieldsReadAsDriven := by
  refine ⟨fun w strobed n => ?_, fun answers n => ?_⟩
  · intro x code copy read
    refine ⟨fun h => ?_, fun h => ?_⟩
    · exact (windowFields_get _ n).trans (windowField_unstrobed (by simp; omega))
    · have hread : read = readField (code ++ copy) := by
        refine (windowFields_get _ n).trans ((windowField_strobed (w := x) ?_).trans ?_)
        · rw [List.getElem?_take_of_lt h]
          simp [x]
        · rw [field_four_eq_append]
      rw [hread]
      exact readField_append code copy
  · have hread : ∀ a b c e : Answer,
        readField (field 12 4 (a.driven ++ b.driven ++ c.driven ++ e.driven)) = a.read ∧
        readField (field 8 4 (a.driven ++ b.driven ++ c.driven ++ e.driven)) = b.read ∧
        readField (field 4 4 (a.driven ++ b.driven ++ c.driven ++ e.driven)) = c.read ∧
        readField (field 0 4 (a.driven ++ b.driven ++ c.driven ++ e.driven)) = e.read := by
      intro a b c e
      obtain ⟨h1, h2, h3, h4⟩ := field_of_four a.driven b.driven c.driven e.driven
      rw [h1, h2, h3, h4]
      simp only [readField_driven, and_self]
    have hanswer : ∀ a : Answer, a.read = match a with
        | .silent => .silent | .ack => .ack | .refuse _ => .refuse | .abstain => .abstain := by
      intro a; cases a <;> rfl
    dsimp only
    rw [windowFields_get]
    refine Eq.trans ?_ (hanswer answers[n])
    obtain ⟨a0, a1, a2, a3⟩ := hread answers[0] answers[1] answers[2] answers[3]
    obtain ⟨b0, b1, b2, b3⟩ := hread answers[4] answers[5] answers[6] answers[7]
    obtain ⟨c0, c1, c2, c3⟩ := hread answers[8] answers[9] answers[10] answers[11]
    obtain ⟨d0, d1, d2, d3⟩ := hread answers[12] answers[13] answers[14] answers[15]
    fin_cases n
    exacts [a0, a1, a2, a3, b0, b1, b2, b3, c0, c1, c2, c3, d0, d1, d2, d3]

end Sys2Proof.Proofs
end


section
/-! The words of a frame (R169), its check word (R170), and when the words a station reads are a good frame
(R31). -/

set_option Elab.async false

namespace Sys2Proof.Machine

/-! ### The check word -/

/-- The bits of a word, most significant first. -/
def wordBits (w : Word16) : List Bool := (List.finRange 16).map (fun i => w.getLsbD (15 - i.val))

theorem crcWord_eq (c w : Word16) : crcWord c w = (wordBits w).foldl crcBit c := by
  have h : (List.range 16).map w.getMsbD = wordBits w := by
    simp [wordBits, List.range_succ, List.finRange, BitVec.getMsbD]
  rw [crcWord, ← h, List.foldl_map]

theorem crcBit_eq (c : Word16) (b : Bool) :
    crcBit c b = if c.getLsbD 15 ≠ b then (c <<< 1) ^^^ 0x1021#16 else c <<< 1 := by
  have h : c.msb = c.getLsbD 15 := BitVec.msb_eq_getLsbD_last c
  rw [crcBit, h]
  cases c.getLsbD 15 <;> cases b <;> rfl

theorem checkWord_eq (ws : List Word16) : checkWord ws = (ws.flatMap wordBits).foldl crcBit 0xFFFF#16 := by
  rw [List.foldl_flatMap, checkWord]
  exact congrArg (fun g => ws.foldl g _) (funext fun c => funext fun w => crcWord_eq c w)

/-! ### Words as bodies -/

theorem payloadOf_isSome (flag : Bool) (ws : List Word16) :
    (payloadOf flag ws).isSome ↔ ws.length = if flag then 2 else 0 := by
  unfold payloadOf
  split
  · cases flag <;> simp
  · cases flag <;> simp
  · rename_i h1 h2
    rcases ws with _ | ⟨a, _ | ⟨b, _ | ⟨c, ws⟩⟩⟩
    · exact absurd rfl h1
    · cases flag <;> simp
    · exact absurd rfl (h2 a b)
    · cases flag <;> simp

/-- The body that body words spell with the slot and the payload flag of the head: one rule for each kind code
(R169). -/
inductive Spells (slot : Slot) (flag : Bool) : Nat → List Word16 → Body → Prop
  | null : Spells slot flag 0 [] .null
  | found (p0 p1 : Word16) : Spells slot flag 1 [p0, p1] (.found (paramsOf p0 p1))
  | join (p0 p1 : Word16) : Spells slot flag 2 [p0, p1] (.join (paramsOf p0 p1))
  | reply (w0 w1 w2 w3 p0 p1 : Word16) : Spells slot flag 3 [w0, w1, w2, w3, p0, p1]
      (.reply (verdictOf (field 14 2 w0)) (stationOf (field 10 4 w0)) (field 4 6 w0).toNat (missOf w1 w2 w3)
        (paramsOf p0 p1))
  | entry (w0 w1 w2 w3 w4 : Word16) {rest : List Word16} {p : Option Word32} (hp : payloadOf flag rest = some p) :
      Spells slot flag 4 (w0 :: w1 :: w2 :: w3 :: w4 :: rest)
        (.entry (field 11 5 w0).toNat (entryOf slot w0 w1 w2 w3 w4 p))
  | close (w : Word16) : Spells slot flag 5 [w] (.close w.toNat)
  | offer (w0 w1 : Word16) {rest : List Word16} {p : Option Word32} (hp : payloadOf flag rest = some p) :
      Spells slot flag 6 (w0 :: w1 :: rest) (.offer slot (field 3 13 w0) (field 0 3 w0) w1 p)
  | claim (t : Word16) : Spells slot flag 7 [t] (.claim ⟨slot, t⟩)
  | done (t : Word16) : Spells slot flag 8 [t] (.done ⟨slot, t⟩)
  | withdraw (t : Word16) : Spells slot flag 9 [t] (.withdraw ⟨slot, t⟩)
  | revoke (t : Word16) : Spells slot flag 10 [t] (.revoke ⟨slot, t⟩)
  | leave : Spells slot flag 11 [] .leave
  | beacon : Spells slot flag 12 [] .beacon

theorem spells_of_bodyOf {kind : BitVec 4} {slot : Slot} {flag : Bool} {ws : List Word16} {b : Body}
    (h : bodyOf kind slot flag ws = some b) : Spells slot flag kind.toNat ws b := by
  unfold bodyOf at h
  generalize kind.toNat = k at h ⊢
  obtain _ | _ | _ | _ | _ | _ | _ | _ | _ | _ | _ | _ | _ | k := k
  case succ.succ.succ.succ.zero =>
    obtain _ | ⟨w0, _ | ⟨w1, _ | ⟨w2, _ | ⟨w3, _ | ⟨w4, rest⟩⟩⟩⟩⟩ := ws
    case cons.cons.cons.cons.cons =>
      obtain ⟨p, hp, rfl⟩ := Option.map_eq_some_iff.mp h
      exact .entry _ _ _ _ _ hp
    all_goals cases h
  case succ.succ.succ.succ.succ.succ.zero =>
    obtain _ | ⟨w0, _ | ⟨w1, rest⟩⟩ := ws
    case cons.cons =>
      obtain ⟨p, hp, rfl⟩ := Option.map_eq_some_iff.mp h
      exact .offer _ _ hp
    all_goals cases h
  all_goals
    obtain _ | ⟨w0, _ | ⟨w1, _ | ⟨w2, _ | ⟨w3, _ | ⟨w4, _ | ⟨w5, _ | ⟨w6, rest⟩⟩⟩⟩⟩⟩⟩ := ws <;> cases h
  all_goals constructor

theorem bodyOf_of_spells {kind : BitVec 4} {slot : Slot} {flag : Bool} {ws : List Word16} {b : Body}
    (h : Spells slot flag kind.toNat ws b) : bodyOf kind slot flag ws = some b := by
  unfold bodyOf
  generalize kind.toNat = k at h ⊢
  cases h
  case entry hp | offer hp => exact Option.map_eq_some_iff.mpr ⟨_, hp, rfl⟩
  all_goals rfl

theorem bodyOf_eq_some_iff {kind : BitVec 4} {slot : Slot} {flag : Bool} {ws : List Word16} {b : Body} :
    bodyOf kind slot flag ws = some b ↔ Spells slot flag kind.toNat ws b :=
  ⟨spells_of_bodyOf, bodyOf_of_spells⟩

theorem Spells.length_eq {slot : Slot} {flag : Bool} {k : Nat} {ws : List Word16} {b : Body}
    (h : Spells slot flag k ws b) : k ≤ 12 ∧ ws.length = bodyLength k flag := by
  cases h
  case entry hp | offer hp =>
    have hlen := (payloadOf_isSome flag _).mp (Option.isSome_iff_exists.mpr ⟨_, hp⟩)
    cases flag <;> simp [bodyLength, hlen]
  all_goals exact ⟨by decide, rfl⟩

/-- A list of at least n words is n words and a rest. -/
theorem exists_take_append {n m : Nat} {ws : List Word16} (h : ws.length = m + n) :
    ∃ first rest : List Word16, ws = first ++ rest ∧ first.length = n ∧ rest.length = m :=
  ⟨ws.take n, ws.drop n, by simp, by simp [h], by simp [h]⟩

theorem exists_spells (slot : Slot) {flag : Bool} {k : Nat} {ws : List Word16} (hk : k ≤ 12)
    (hlen : ws.length = bodyLength k flag) : ∃ b, Spells slot flag k ws b := by
  have hrest : ∀ rest : List Word16, rest.length = (if flag then 2 else 0) →
      ∃ p, payloadOf flag rest = some p := fun rest h => Option.isSome_iff_exists.mp ((payloadOf_isSome _ _).mpr h)
  have hone : ws.length = 1 → ∃ w, ws = [w] := List.length_eq_one_iff.mp
  have htwo : ws.length = 2 → ∃ v w, ws = [v, w] := List.length_eq_two.mp
  have hkinds : (k = 0 ∨ k = 11 ∨ k = 12) ∨ (k = 1 ∨ k = 2) ∨ (k = 5 ∨ k = 7 ∨ k = 8 ∨ k = 9 ∨ k = 10) ∨
      k = 3 ∨ k = 4 ∨ k = 6 := by omega
  rcases hkinds with hk | hk | hk | rfl | rfl | rfl
  · obtain rfl : ws = [] := by rcases hk with rfl | rfl | rfl <;> exact List.length_eq_zero_iff.mp hlen
    rcases hk with rfl | rfl | rfl <;> exact ⟨_, by constructor⟩
  · obtain ⟨v, w, rfl⟩ := htwo (by rcases hk with rfl | rfl <;> exact hlen)
    rcases hk with rfl | rfl <;> exact ⟨_, by constructor⟩
  · obtain ⟨w, rfl⟩ := hone (by rcases hk with rfl | rfl | rfl | rfl | rfl <;> exact hlen)
    rcases hk with rfl | rfl | rfl | rfl | rfl <;> exact ⟨_, by constructor⟩
  · obtain ⟨u, v, rfl, hu, hv⟩ := exists_take_append (m := 3) (n := 3) hlen
    obtain ⟨a, b, c, rfl⟩ := List.length_eq_three.mp hu
    obtain ⟨d, e, f, rfl⟩ := List.length_eq_three.mp hv
    exact ⟨_, .reply ..⟩
  · obtain ⟨u, v, rfl, hu, hv⟩ := exists_take_append (m := (if flag then 2 else 0) + 2) (n := 3) (ws := ws)
      (by cases flag <;> exact hlen)
    obtain ⟨v, rest, rfl, hv, hr⟩ := exists_take_append hv
    obtain ⟨a, b, c, rfl⟩ := List.length_eq_three.mp hu
    obtain ⟨d, e, rfl⟩ := List.length_eq_two.mp hv
    obtain ⟨p, hp⟩ := hrest rest hr
    exact ⟨_, .entry _ _ _ _ _ hp⟩
  · obtain ⟨v, rest, rfl, hv, hr⟩ := exists_take_append (m := if flag then 2 else 0) (n := 2) (ws := ws)
      (by cases flag <;> exact hlen)
    obtain ⟨d, e, rfl⟩ := List.length_eq_two.mp hv
    obtain ⟨p, hp⟩ := hrest rest hr
    exact ⟨_, .offer _ _ hp⟩

/-- A body is spelled by a kind that exists and the number of words of that kind (R31, R169). -/
theorem bodyOf_isSome_iff (kind : BitVec 4) (slot : Slot) (flag : Bool) (ws : List Word16) :
    (bodyOf kind slot flag ws).isSome ↔ kind.toNat ≤ 12 ∧ ws.length = bodyLength kind.toNat flag := by
  simp only [Option.isSome_iff_exists, bodyOf_eq_some_iff]
  exact ⟨fun ⟨_, h⟩ => h.length_eq, fun ⟨hk, hlen⟩ => exists_spells slot hk hlen⟩

/-- A good frame: its head words, its body words and its check word (R31). -/
theorem decodeFrame_eq_some {ws : List Word16} {f : Frame} : decodeFrame ws = some f ↔
    ∃ h0 h1 h2 body b, ws = h0 :: h1 :: h2 :: body ++ [checkWord (h0 :: h1 :: h2 :: body)] ∧
      bodyOf (field 12 4 h0) (slotOf (field 3 5 h0)) (h0.getLsbD 2) body = some b ∧
      f = { sender := stationOf (field 8 4 h0), seq := h1, members := h2, body := b } := by
  constructor
  · intro h
    unfold decodeFrame at h
    split at h
    · simp at h
    · rename_i c hc
      split at h
      · rename_i hcheck
        have hws : ws = ws.dropLast ++ [c] := (List.dropLast_append_getLast? c hc).symm
        generalize ws.dropLast = init at *
        unfold frameOfWords at h
        split at h
        · obtain ⟨b, hb, rfl⟩ := Option.map_eq_some_iff.mp h
          exact ⟨_, _, _, _, b, by rw [hws, hcheck], hb, rfl⟩
        · simp at h
      · simp at h
  · rintro ⟨h0, h1, h2, body, b, rfl, hb, rfl⟩
    unfold decodeFrame
    rw [List.getLast?_append_of_ne_nil _ (by simp)]
    simp only [List.getLast?_singleton, List.dropLast_concat, if_true, frameOfWords, hb, Option.map_some]

theorem decodeFrame_isSome_iff {ws : List Word16} :
    (decodeFrame ws).isSome ↔ ∃ h0 h1 h2 body, ws = h0 :: h1 :: h2 :: body ++ [checkWord (h0 :: h1 :: h2 :: body)] ∧
      (bodyOf (field 12 4 h0) (slotOf (field 3 5 h0)) (h0.getLsbD 2) body).isSome := by
  rw [Option.isSome_iff_exists]
  constructor
  · rintro ⟨f, hf⟩
    obtain ⟨h0, h1, h2, body, b, hws, hb, -⟩ := decodeFrame_eq_some.mp hf
    exact ⟨h0, h1, h2, body, hws, by rw [hb]; rfl⟩
  · rintro ⟨h0, h1, h2, body, hws, hb⟩
    obtain ⟨b, hb⟩ := Option.isSome_iff_exists.mp hb
    exact ⟨_, decodeFrame_eq_some.mpr ⟨h0, h1, h2, body, b, hws, hb, rfl⟩⟩

/-! ### Where the fields stand -/

@[simp] theorem bitsAt_zero (w : Word16) (ws : List Word16) (lo width : Nat) :
    bitsAt (w :: ws) 0 lo width = (field lo width w).toNat := rfl

theorem bitsAt_succ (w : Word16) (ws : List Word16) (k lo width : Nat) :
    bitsAt (w :: ws) (k + 1) lo width = bitsAt ws k lo width := rfl

theorem field_one_eq_one_iff (lo : Nat) (w : Word16) : (field lo 1 w).toNat = 1 ↔ w.getLsbD lo = true := by
  have h : field lo 1 w = BitVec.ofBool (w.getLsbD lo) := by
    ext i hi
    obtain rfl : i = 0 := by omega
    simp [field]
  rw [h]
  cases w.getLsbD lo <;> decide

theorem verdictNumber_verdictOf (b : BitVec 2) : verdictNumber (verdictOf b) = b.toNat := by
  revert b
  decide

/-- The payload the words from k on carry, where the head's flag says that they do (R169). -/
theorem payloadOf_eq_some {flag : Bool} {rest : List Word16} {p : Option Word32}
    (h : payloadOf flag rest = some p) (c : Word16) :
    p = if flag = true then some ((rest ++ [c]).getD 0 0 ++ (rest ++ [c]).getD 1 0) else none := by
  unfold payloadOf at h
  split at h
  · cases flag <;> simp_all
  · cases flag <;> simp_all
  · simp at h

end Sys2Proof.Machine

namespace Sys2Proof.Proofs

open Sys2Proof.Machine

/-- Settles O33: the check word folds the bits of the words; a frame is good when head, body and check word can
be told apart; and kind by kind the body's fields are read where R169 has them. -/
theorem frameIsGoodByKindLengthAndCheck : Obligations.FrameIsGoodByKindLengthAndCheck := by
  intro ws
  refine ⟨?_, ?_, fun f hf => ?_⟩
  · intro shifted bits
    have h : shifted = crcBit := funext fun c => funext fun b => (crcBit_eq c b).symm
    rw [h]
    exact checkWord_eq ws
  · rw [decodeFrame_isSome_iff]
    simp only [bodyOf_isSome_iff]
    constructor
    · rintro ⟨h0, h1, h2, body, hws, hk, hlen⟩
      exact ⟨h0, h1, h2, _, body, hws, hk, hlen, rfl⟩
    · rintro ⟨h0, h1, h2, c, body, hws, hk, hlen, rfl⟩
      exact ⟨h0, h1, h2, body, hws, hk, hlen⟩
  · obtain ⟨h0, h1, h2, body, b, hws, hb, rfl⟩ := decodeFrame_eq_some.mp hf
    subst hws
    have hs := bodyOf_eq_some_iff.mp hb
    generalize hk : (field 12 4 h0).toNat = k at hs
    have hself : ∀ w : Word16, w.toNat = (field 0 16 w).toNat := fun w => by rw [field_self]
    have hpayload : ∀ {rest : List Word16} {p} (c : Word16), payloadOf (h0.getLsbD 2) rest = some p →
        p = if (field 2 1 h0).toNat = 1 then some ((rest ++ [c]).getD 0 0 ++ (rest ++ [c]).getD 1 0) else none := by
      intro rest p c hp
      simp only [field_one_eq_one_iff]
      exact payloadOf_eq_some hp c
    clear hb hf
    cases hs
    all_goals refine ⟨hk.symm, rfl, hself h1, hself h2, ?_⟩
    case null | leave | beacon => trivial
    case found | join => exact ⟨rfl, rfl, rfl, rfl, rfl⟩
    case reply =>
      exact ⟨verdictNumber_verdictOf _, rfl, rfl, fun n => Vector.getElem_ofFn _, rfl, rfl, rfl, rfl, rfl⟩
    case close w => exact hself w
    case claim t | done t | withdraw t | revoke t => exact ⟨rfl, hself t⟩
    case offer w0 w1 rest p hp => exact ⟨rfl, rfl, rfl, hself _, hpayload _ hp⟩
    case entry w0 w1 w2 w3 w4 rest p hp =>
      refine ⟨rfl, rfl, rfl, ?_, (field_one_eq_one_iff 6 w0).symm, rfl, hself _, rfl, rfl, hself _, hpayload _ hp⟩
      simp only [bitsAt_succ, bitsAt_zero, List.cons_append, field_one_eq_one_iff]
      unfold entryOf
      cases w0.getLsbD 7 <;> rfl

end Sys2Proof.Proofs
end


section
/-! What is written into the words of a frame is read back from them (R169). -/

set_option Elab.async false

namespace Sys2Proof.Machine

/-! ### Numbers and fields -/

theorem verdictBits_eq (v : Verdict) : verdictBits v = BitVec.ofNat 2 (verdictNumber v) := by
  cases v <;> rfl

theorem toNat_ofNat_of_le {w n k : Nat} (h : n ≤ k) (hk : k + 1 ≤ 2 ^ w := by decide) :
    (BitVec.ofNat w n).toNat = n := by
  rw [BitVec.toNat_ofNat, Nat.mod_eq_of_lt (by omega)]

theorem payloadOf_payloadWords (p : Option Word32) : payloadOf p.isSome (payloadWords p) = some p := by
  cases p with
  | none => rfl
  | some p =>
    simp only [payloadOf, payloadWords, Option.isSome_some, if_true, Option.some.injEq]
    ext i hi
    simp only [field, BitVec.getElem_append, BitVec.getElem_extractLsb']
    grind

theorem paramsOf_paramWords {p : Params} (h : p.Encodable) :
    ∃ w0 w1, paramWords p = [w0, w1] ∧ paramsOf w0 w1 = p := by
  obtain ⟨hq, hq', he, hv, hl, hti⟩ := h
  refine ⟨_, _, rfl, ?_⟩
  unfold paramsOf
  rw [field_append_high 11 5 _ _ (by decide), field_append_high _ 5 _ _ (by decide),
    field_append_high _ 5 _ _ (by decide), field_append_high _ 5 _ _ (by decide), field_append_high 8 3 _ _ (by decide),
    field_append_high _ 3 _ _ (by decide), field_append_high _ 3 _ _ (by decide), field_append_low,
    field_append_high 5 3 _ _ (by decide), field_append_high _ 3 _ _ (by decide), field_append_low,
    field_append_high 1 4 _ _ (by decide), field_append_low, field_append_high 8 8 _ _ (by decide)]
  have hself : field (11 - 1 - 4 - 3 - 3) 5 (BitVec.ofNat 5 (p.q - 1)) = BitVec.ofNat 5 (p.q - 1) := field_self _
  have hself' : field (8 - 8) 8 (BitVec.ofNat 8 p.ti) = BitVec.ofNat 8 p.ti := field_self _
  rw [hself, hself', toNat_ofNat_of_le (show p.q - 1 ≤ 31 by omega), toNat_ofNat_of_le he, toNat_ofNat_of_le hv,
    toNat_ofNat_of_le hl, toNat_ofNat_of_le hti]
  have : p.q - 1 + 1 = p.q := by omega
  rw [this]

/-! ### The miss counts -/

/-- A count placed below a bit string of 48 bits at most is appended to it. -/
theorem shiftLeft_or_count {k : Nat} (x : BitVec k) (v : Nat) :
    x.setWidth 48 <<< 3 ||| BitVec.ofNat 48 (v % 8) = (x ++ BitVec.ofNat 3 v).setWidth 48 := by
  ext i hi
  have hv : (BitVec.ofNat 48 (v % 8))[i] = (decide (i < 3) && v.testBit i) := by
    rw [← BitVec.getLsbD_eq_getElem, BitVec.getLsbD_ofNat, show (8 : Nat) = 2 ^ 3 from rfl,
      Nat.testBit_mod_two_pow, decide_eq_true hi, Bool.true_and]
  simp only [BitVec.getElem_or, BitVec.getElem_shiftLeft, BitVec.getElem_setWidth, BitVec.getLsbD_append, hv,
    BitVec.getLsbD_ofNat]
  by_cases h : i < 3 <;> simp [h]

/-- The sixteen counts as one string, station 0 highest. -/
def missString (m : Vector Nat 16) : BitVec 48 :=
  let c := fun n : Station => BitVec.ofNat 3 m[n]
  c 0 ++ c 1 ++ c 2 ++ c 3 ++ c 4 ++ c 5 ++ c 6 ++ c 7 ++ c 8 ++ c 9 ++ c 10 ++ c 11 ++ c 12 ++ c 13 ++ c 14 ++ c 15

theorem missFold_eq (m : Vector Nat 16) :
    (List.finRange 16).foldl (fun (a : BitVec 48) n => (a <<< 3) ||| BitVec.ofNat 48 (m[n] % 8)) (0 : BitVec 48) = missString m := by
  have h0 : (0 : BitVec 48) = (0#0).setWidth 48 := rfl
  have hr : List.finRange 16 = [0, 1, 2, 3, 4, 5, 6, 7, 8, 9, 10, 11, 12, 13, 14, 15] := rfl
  rw [h0, hr]
  simp only [List.foldl_cons, List.foldl_nil, shiftLeft_or_count, BitVec.setWidth_eq]
  unfold missString
  apply BitVec.eq_of_toNat_eq
  simp only [BitVec.toNat_append, BitVec.toNat_ofNat, Nat.zero_mod, Nat.zero_shiftLeft, Nat.zero_or]

theorem field_missString (m : Vector Nat 16) (n : Station) :
    field (45 - 3 * n.val) 3 (missString m) = BitVec.ofNat 3 m[n] := by
  change _ = (fun k : Station => BitVec.ofNat 3 m[k]) n
  unfold missString
  generalize (fun k : Station => BitVec.ofNat 3 m[k]) = c
  dsimp only
  fin_cases n <;> ext i hi <;> simp only [field, BitVec.getElem_extractLsb', BitVec.getLsbD_append] <;> grind

theorem missWords_eq_layout (m : Vector Nat 16) : missWords m = missLayout m := by
  unfold missWords
  rw [missFold_eq]
  rfl

theorem missOf_missLayout {m : Vector Nat 16} (h : ∀ n : Station, m[n] ≤ 7) :
    ∃ w1 w2 w3, missLayout m = [w1, w2, w3] ∧ missOf w1 w2 w3 = m := by
  refine ⟨_, _, _, rfl, ?_⟩
  change missOf (field 32 16 (missString m)) (field 16 16 (missString m)) (field 0 16 (missString m)) = m
  have hjoin : field 32 16 (missString m) ++ field 16 16 (missString m) ++ field 0 16 (missString m) =
      missString m := by
    ext i hi
    simp only [field, BitVec.getElem_append, BitVec.getElem_extractLsb']
    grind
  unfold missOf
  rw [hjoin]
  refine vector_ext fun n => ?_
  rw [Fin.getElem_fin, Vector.getElem_ofFn, field_missString]
  exact toNat_ofNat_of_le (h n)

/-! ### Bodies and frames -/

/-- The words of a frame before its check word are those of R169. -/
theorem headWords_append_bodyWords (f : Frame) : headWords f ++ bodyWords f.body = f.layout := by
  obtain ⟨sender, seq, members, body⟩ := f
  unfold Frame.layout
  simp only [headWords, stationBits_eq sender]
  cases body
  case reply verdict station count miss p =>
    simp only [Body.layout, bodyWords, verdictBits_eq, stationBits_eq, missWords_eq_layout, List.append_nil]
    rfl
  case entry position e =>
    simp only [Body.layout, bodyWords, bodySlot, slotBits_eq, bodyPayload, stationBits_eq]
    cases e.claimant <;> cases e.payload <;> rfl
  case offer k code prio ts p =>
    simp only [Body.layout, bodyWords, bodySlot, slotBits_eq, bodyPayload]
    cases p <;> rfl
  all_goals
    simp only [Body.layout, bodyWords, bodySlot, kindCode, slotBits_eq, bodyPayload]
    rfl

theorem replyWord_fields (verdict : Verdict) (station : Station) {count : Nat} (h : count ≤ 63) :
    let w := verdictBits verdict ++ stationBits station ++ BitVec.ofNat 6 count ++ 0#4
    verdictOf (field 14 2 w) = verdict ∧ stationOf (field 10 4 w) = station ∧ (field 4 6 w).toNat = count := by
  have hv : field (14 - 4 - 6 - 4) 2 (verdictBits verdict) = verdictBits verdict := field_self _
  refine ⟨?_, ?_, ?_⟩
  · rw [field_append_high 14 2 _ _ (by decide), field_append_high _ 2 _ _ (by decide),
      field_append_high _ 2 _ _ (by decide), hv, verdictOf_verdictBits]
  · rw [field_append_high 10 4 _ _ (by decide), field_append_high _ 4 _ _ (by decide), field_append_low,
      stationOf_stationBits]
  · rw [field_append_high 4 6 _ _ (by decide), field_append_low, toNat_ofNat_of_le h]

theorem entryWord_fields {position revokes : Nat} (hpos : position ≤ 31) (hrev : revokes ≤ 7) (claimed orphan : Bool)
    (origin : Station) :
    let w := BitVec.ofNat 5 position ++ BitVec.ofNat 3 revokes ++ BitVec.ofBool claimed ++ BitVec.ofBool orphan ++
      stationBits origin ++ 0#2
    (field 11 5 w).toNat = position ∧ (field 8 3 w).toNat = revokes ∧ w.getLsbD 7 = claimed ∧
      w.getLsbD 6 = orphan ∧ stationOf (field 2 4 w) = origin := by
  have hp : field (11 - 2 - 4 - 1 - 1 - 3) 5 (BitVec.ofNat 5 position) = BitVec.ofNat 5 position := field_self _
  refine ⟨?_, ?_, ?_, ?_, ?_⟩
  · rw [field_append_high 11 5 _ _ (by decide), field_append_high _ 5 _ _ (by decide),
      field_append_high _ 5 _ _ (by decide), field_append_high _ 5 _ _ (by decide),
      field_append_high _ 5 _ _ (by decide), hp, toNat_ofNat_of_le hpos]
  · rw [field_append_high 8 3 _ _ (by decide), field_append_high _ 3 _ _ (by decide),
      field_append_high _ 3 _ _ (by decide), field_append_high _ 3 _ _ (by decide), field_append_low,
      toNat_ofNat_of_le hrev]
  · simp only [BitVec.getLsbD_append]
    simp
  · simp only [BitVec.getLsbD_append]
    simp
  · rw [field_append_high 2 4 _ _ (by decide), field_append_low, stationOf_stationBits]

theorem entryOf_bodyWords (e : Entry) {position : Nat} (hpos : position ≤ 31) (hrev : e.revokes ≤ 7) :
    ∃ w0 w1 w2 w3 w4, bodyWords (.entry position e) = w0 :: w1 :: w2 :: w3 :: w4 :: payloadWords e.payload ∧
      (field 11 5 w0).toNat = position ∧ entryOf e.slot w0 w1 w2 w3 w4 e.payload = e := by
  obtain ⟨hp, hr, hc, ho, hs⟩ := entryWord_fields hpos hrev e.claimant.isSome e.orphan e.origin
  refine ⟨_, _, _, _, _, rfl, hp, ?_⟩
  have hcode : field (3 - 3) 13 e.code = e.code := field_self _
  have hclaim : field (12 - 12) 4 (stationBits (e.claimant.getD 0)) = stationBits (e.claimant.getD 0) := field_self _
  unfold entryOf
  rw [hr, hc, ho, hs, field_append_high 3 13 _ _ (by decide), hcode, field_append_low,
    field_append_high 12 4 _ _ (by decide), hclaim, stationOf_stationBits]
  obtain ⟨_, _, _, _, _, _, _ | c, _⟩ := e <;> rfl

/-- The words of a body that fits them spell it (R169). -/
theorem spells_bodyWords {f : Frame} (h : f.Encodable) :
    Spells (bodySlot f.body) (bodyPayload f.body).isSome (kindCode f.body).toNat (bodyWords f.body) f.body := by
  obtain ⟨sender, seq, members, body⟩ := f
  cases body
  case found p =>
    obtain ⟨w0, w1, hw, hp⟩ := paramsOf_paramWords h
    have hspell := Spells.found (slot := 0) (flag := false) w0 w1
    rw [hp, ← hw] at hspell
    exact hspell
  case join p =>
    obtain ⟨w0, w1, hw, hp⟩ := paramsOf_paramWords h
    have hspell := Spells.join (slot := 0) (flag := false) w0 w1
    rw [hp, ← hw] at hspell
    exact hspell
  case reply verdict station count miss p =>
    obtain ⟨hcount, hmiss, hparams⟩ := h
    obtain ⟨p0, p1, hp, hp'⟩ := paramsOf_paramWords hparams
    obtain ⟨w1, w2, w3, hm, hm'⟩ := missOf_missLayout hmiss
    obtain ⟨hv, hs, hc⟩ := replyWord_fields verdict station hcount
    have hspell := Spells.reply (slot := 0) (flag := false)
      (verdictBits verdict ++ stationBits station ++ BitVec.ofNat 6 count ++ 0#4) w1 w2 w3 p0 p1
    rw [hv, hs, hc, hm', hp'] at hspell
    simp only [bodyWords, hp, missWords_eq_layout, hm]
    exact hspell
  case entry position e =>
    obtain ⟨hpos, hrev⟩ := h
    obtain ⟨w0, w1, w2, w3, w4, hw, hp, he⟩ := entryOf_bodyWords e hpos hrev
    have hspell := Spells.entry (slot := e.slot) w0 w1 w2 w3 w4 (payloadOf_payloadWords e.payload)
    rw [hp, he] at hspell
    rw [← hw] at hspell
    exact hspell
  case offer k code prio ts p =>
    have hspell := Spells.offer (slot := k) (code ++ prio) ts (payloadOf_payloadWords p)
    have hcode : field (3 - 3) 13 code = code := field_self _
    rw [field_append_high 3 13 _ _ (by decide), hcode, field_append_low] at hspell
    exact hspell
  case close count =>
    have hspell := Spells.close (slot := 0) (flag := false) (BitVec.ofNat 16 count)
    rw [toNat_ofNat_of_le h] at hspell
    exact hspell
  all_goals constructor

/-- The first head word holds the kind, the sender, the slot and the payload flag (R169). -/
theorem headWord_fields (kind : BitVec 4) (sender : Station) (slot : Slot) (flag : Bool) :
    let w := kind ++ stationBits sender ++ slotBits slot ++ BitVec.ofBool flag ++ 0#2
    field 12 4 w = kind ∧ stationOf (field 8 4 w) = sender ∧ slotOf (field 3 5 w) = slot ∧ w.getLsbD 2 = flag := by
  have hk : field (12 - 2 - 1 - 5 - 4) 4 kind = kind := field_self _
  refine ⟨?_, ?_, ?_, ?_⟩
  · rw [field_append_high 12 4 _ _ (by decide), field_append_high _ 4 _ _ (by decide),
      field_append_high _ 4 _ _ (by decide), field_append_high _ 4 _ _ (by decide), hk]
  · rw [field_append_high 8 4 _ _ (by decide), field_append_high _ 4 _ _ (by decide),
      field_append_high _ 4 _ _ (by decide), field_append_low, stationOf_stationBits]
  · rw [field_append_high 3 5 _ _ (by decide), field_append_high _ 5 _ _ (by decide), field_append_low,
      slotOf_slotBits]
  · simp only [BitVec.getLsbD_append]
    simp

theorem decodeFrame_encodeFrame {f : Frame} (h : f.Encodable) : decodeFrame (encodeFrame f) = some f := by
  obtain ⟨hkind, hsender, hslot, hflag⟩ :=
    headWord_fields (kindCode f.body) f.sender (bodySlot f.body) (bodyPayload f.body).isSome
  refine decodeFrame_eq_some.mpr ⟨_, f.seq, f.members, bodyWords f.body, f.body, rfl, ?_, ?_⟩
  · rw [hkind, hslot, hflag, bodyOf_eq_some_iff]
    exact spells_bodyWords h
  · rw [hsender]

theorem length_encodeFrame {f : Frame} (h : f.Encodable) :
    (encodeFrame f).length = 4 + bodyLength (kindCode f.body).toNat (bodyPayload f.body).isSome := by
  obtain ⟨-, hlen⟩ := (spells_bodyWords h).length_eq
  simp only [encodeFrame, headWords, List.length_append, List.length_cons, List.length_nil, hlen]
  omega

theorem layout_kind_payload (b : Body) : b.layout.1 = (kindCode b).toNat ∧ b.layout.2.2.1 = bodyPayload b := by
  cases b <;> exact ⟨rfl, rfl⟩

end Sys2Proof.Machine

namespace Sys2Proof.Proofs

open Sys2Proof.Machine

/-- Settles O32: the model's words are those of R169 kind by kind, and each field is read from where it was
written. -/
theorem framesReadBackFromTheirWords : Obligations.FramesReadBackFromTheirWords := by
  intro f h
  obtain ⟨hkind, hpayload⟩ := layout_kind_payload f.body
  refine ⟨?_, decodeFrame_encodeFrame h, ?_⟩
  · rw [encodeFrame, headWords_append_bodyWords]
  · rw [hkind, hpayload]
    exact length_encodeFrame h

end Sys2Proof.Proofs
end


section
/-! The step (R161) and the reset (R43). -/

set_option Elab.async false

namespace Sys2Proof.Machine

/-! ### What the window shows -/

/-- What the window shows stands in the port, the station state and the claim unit. -/
theorem windowRead_congr {s t : State} (hport : t.port = s.port) (hcontrol : t.control = s.control)
    (hclaim : t.claim = s.claim) : windowRead t = windowRead s := by
  obtain ⟨_, _, _, _, _, _, _, _, _⟩ := s
  obtain ⟨_, _, _, _, _, _, _, _, _⟩ := t
  cases hport
  cases hcontrol
  cases hclaim
  rfl

theorem hostIrq_congr {s t : State} (hport : t.port = s.port) (hclaim : t.claim = s.claim) :
    hostIrq t = hostIrq s := by
  obtain ⟨_, _, _, _, _, _, _, _, _⟩ := s
  obtain ⟨_, _, _, _, _, _, _, _, _⟩ := t
  cases hport
  cases hclaim
  rfl

theorem windowRead_reset : ∀ loc, windowRead State.reset loc = 0 := by decide

end Sys2Proof.Machine

namespace Sys2Proof.Proofs

open Sys2Proof.Machine

/-- Settles O1, by the two cases of the queue. -/
theorem stepRunsFrontCommand : Obligations.StepRunsFrontCommand := by
  refine ⟨fun s c rest h => ?_, fun s h => ?_⟩
  · unfold step
    rw [h]
  · unfold step
    rw [h]
    rfl

/-- Settles O3: the reset state is written out, and every location of its window reads 0. -/
theorem powerOnResetValues : Obligations.PowerOnResetValues := by
  intro n s
  refine ⟨_, rfl, rfl, rfl, rfl, rfl, rfl, rfl, rfl, rfl, fun k => ?_, rfl, rfl, rfl, fun k => ?_, rfl, rfl, rfl,
    rfl, rfl, rfl, rfl, rfl, fun loc => ?_, ?_⟩
  · exact Vector.getElem_replicate k.isLt
  · exact Vector.getElem_replicate k.isLt
  · exact (congrFun (windowRead_congr rfl rfl rfl) loc).trans (windowRead_reset loc)
  · exact (hostIrq_congr rfl rfl).trans (show hostIrq State.reset = false by decide)

end Sys2Proof.Proofs
end


section
/-! The words READ_COMPLETION, READ_FAULT, INSPECT, STATUS and the STATUS location show (R172), each as the row
of its fields, and the commands that answer with them. -/

set_option Elab.async false

namespace Sys2Proof.Machine

theorem place_zero_eq (w v : Nat) : place 0 w v = (BitVec.ofNat w v).setWidth 32 := by
  rw [place_eq_shiftLeft, BitVec.shiftLeft_zero]

theorem ofNat_one_toNat (b : Bool) : BitVec.ofNat 1 b.toNat = BitVec.ofBool b := by cases b <;> rfl

/-! ### Completions -/

theorem completion_codes (c : Completion) :
    c.kindCode = (completionCodes c).1 ∧ c.outcomeCode = (completionCodes c).2.1 := by
  cases c <;> exact ⟨rfl, rfl⟩

theorem completionWord_eq (c : Completion) : completionWord c =
    0#20 ++ BitVec.ofNat 4 (completionCodes c).2.1 ++ 0#4 ++ BitVec.ofNat 4 (completionCodes c).1 := by
  obtain ⟨hkind, houtcome⟩ := completion_codes c
  rw [completionWord, hkind, houtcome, place_eq_shiftLeft, ← setWidth_zero_append _ 20,
    shiftLeft_add_eq_append _ 4 4, shiftLeft_or_place _ 0 4]
  simp

theorem handleWord_eq (h : Handle) :
    place 16 5 h.slot.val ||| place 0 16 h.tag.toNat = 0#11 ++ BitVec.ofNat 5 h.slot.val ++ h.tag := by
  rw [place_eq_shiftLeft, ← setWidth_zero_append _ 11, shiftLeft_or_place _ 0 16]
  simp

theorem raiseWord_eq (id : RaiseId) : place 0 8 id.toNat = 0#24 ++ id := by
  rw [place_zero_eq, ← setWidth_zero_append _ 24]
  simp

theorem nameWord_eq (c : Completion) : c.nameWord = (completionCodes c).2.2 := by
  cases c
  case finishDoneTaken h | finishLate h | grantLostRevoked h | grantLostDeparted h => exact handleWord_eq h
  case raiseServiced id | raiseDropped id | raiseDiscarded id => exact raiseWord_eq id
  case leaveLeft | leaveAbandoned => rfl

/-! ### Faults -/

theorem faultWord_eq (f : FaultRecord) : faultWord f =
    BitVec.ofNat 2 (causeNumber f.cause) ++ 0#2 ++ BitVec.ofNat 4 (f.line.getD 0).val ++
      0#3 ++ BitVec.ofNat 5 (f.slot.getD 0).val ++ BitVec.ofNat 4 (f.station.getD 0).val ++
      BitVec.ofBool f.seq.isSome ++ BitVec.ofBool f.line.isSome ++ BitVec.ofBool f.slot.isSome ++
      BitVec.ofBool f.station.isSome ++ BitVec.ofNat 8 (faultKindNumber f.kind) := by
  rw [faultWord, causeNumber_eq, faultKindNumber_eq]
  simp only [placeBit]
  rw [place_eq_shiftLeft, shiftLeft_add_eq_append _ 28 2, shiftLeft_or_place _ 24 4, shiftLeft_add_eq_append _ 21 3,
    shiftLeft_or_place _ 16 5, shiftLeft_or_place _ 12 4, shiftLeft_or_place _ 11 1, shiftLeft_or_place _ 10 1,
    shiftLeft_or_place _ 9 1, shiftLeft_or_place _ 8 1, shiftLeft_or_place _ 0 8]
  simp [ofNat_one_toNat]

theorem seqWord_eq (t : Tag) : place 0 16 t.toNat = 0#16 ++ t := by
  rw [place_zero_eq, ← setWidth_zero_append _ 16]
  simp

/-! ### INSPECT -/

theorem inspectWords_some (e : Entry) : inspectWords (some e) =
    (1#1 ++ BitVec.ofBool e.claimant.isSome ++ BitVec.ofBool e.orphan ++ BitVec.ofBool e.payload.isSome ++ 0#1 ++
      BitVec.ofNat 3 e.revokes ++ BitVec.ofNat 4 (e.claimant.getD 0).val ++ BitVec.ofNat 4 e.origin.val ++ e.tag,
     e.targets ++ e.code ++ e.priority, e.payload.getD 0) := by
  rw [inspectWords]
  refine Prod.ext ?_ (Prod.ext ?_ rfl)
  · simp only [placeBit]
    rw [place_eq_shiftLeft, shiftLeft_or_place _ 30 1, shiftLeft_or_place _ 29 1, shiftLeft_or_place _ 28 1,
      shiftLeft_add_eq_append _ 27 1, shiftLeft_or_place _ 24 3, shiftLeft_or_place _ 20 4,
      shiftLeft_or_place _ 16 4, shiftLeft_or_place _ 0 16]
    simp [ofNat_one_toNat]
  · dsimp only
    rw [place_eq_shiftLeft, shiftLeft_or_place _ 3 13, shiftLeft_or_place _ 0 3]
    simp

/-! ### STATUS -/

theorem copyMembers_eq (s : State) : copyMembers s = match s.record with | some r => r.members | none => 0 := by
  unfold copyMembers
  cases s.record <;> rfl

theorem copySeq_eq (s : State) : copySeq s = match s.record with | some r => r.seq | none => 0 := by
  unfold copySeq
  cases s.record <;> rfl

theorem statusWord_eq (s : State) : statusWord s =
    0#3 ++ BitVec.ofBool s.port.overflow ++ BitVec.ofNat 4 (unreadCount s) ++
      BitVec.ofNat 4 s.claim.grants.length ++ BitVec.ofNat 4 (stateNumber s.control.state) ++ copyMembers s := by
  rw [statusWord, stateNumber_eq]
  rw [placeBit_eq_shiftLeft, ← setWidth_zero_append _ 3, shiftLeft_or_place _ 24 4, shiftLeft_or_place _ 20 4,
    shiftLeft_or_place _ 16 4, shiftLeft_or_place _ 0 16]
  simp

theorem statusLocation_eq (s : State) : statusLocation s =
    0#5 ++ BitVec.ofBool s.port.overflow ++ BitVec.ofNat 4 s.port.faults.length ++ BitVec.ofNat 5 s.port.reserved ++
      BitVec.ofNat 5 s.port.completions.length ++ BitVec.ofNat 4 (unreadCount s) ++
      BitVec.ofNat 4 s.claim.grants.length ++ BitVec.ofNat 4 (stateNumber s.control.state) := by
  rw [statusLocation, stateNumber_eq]
  rw [placeBit_eq_shiftLeft, ← setWidth_zero_append _ 5, shiftLeft_or_place _ 22 4, shiftLeft_or_place _ 17 5,
    shiftLeft_or_place _ 12 5, shiftLeft_or_place _ 8 4, shiftLeft_or_place _ 4 4, shiftLeft_or_place _ 0 4]
  simp

/-! ### The commands -/

theorem exec_readCompletion_nil {s : State} (h : s.port.completions = []) :
    exec .readCompletion s = .next (answered 11 2 0 0 0 s) := by
  change Host.Outcome.next (commandReadCompletion (takeCommand 11 s)) = _
  rw [commandReadCompletion, show (takeCommand 11 s).port.completions = [] from h]
  rfl

theorem exec_readCompletion_cons {s : State} {c : Completion} {cs : List Completion}
    (h : s.port.completions = c :: cs) :
    exec .readCompletion s = .next ((answered 11 1 (completionWord c) c.nameWord 0 s).setPort
      { (answered 11 1 (completionWord c) c.nameWord 0 s).port with completions := cs }) := by
  change Host.Outcome.next (commandReadCompletion (takeCommand 11 s)) = _
  rw [commandReadCompletion, show (takeCommand 11 s).port.completions = c :: cs from h]
  rfl

theorem exec_readFault_nil {s : State} (h : s.port.faults = []) :
    exec .readFault s = .next (answered 12 2 0 0 0 s) := by
  change Host.Outcome.next (commandReadFault (takeCommand 12 s)) = _
  rw [commandReadFault, show (takeCommand 12 s).port.faults = [] from h]
  rfl

theorem exec_readFault_cons {s : State} {f : FaultRecord} {fs : List FaultRecord} (h : s.port.faults = f :: fs) :
    exec .readFault s = .next (s.setPort { s.port with
      command := 12, result0 := 1, result1 := faultWord f, result2 := f.stamp,
      result3 := place 0 16 (f.seq.getD 0).toNat, faults := fs }) := by
  change Host.Outcome.next (commandReadFault (takeCommand 12 s)) = _
  rw [commandReadFault, show (takeCommand 12 s).port.faults = f :: fs from h]
  rfl

theorem argSlot_eq_some_iff {s : State} {k : Slot} : argSlot s = some k ↔ s.port.arg0.toNat = k.val := by
  unfold argSlot arg0
  split
  · rename_i h
    rw [Option.some.injEq, Fin.ext_iff]
  · rename_i h
    have := k.isLt
    simp only [reduceCtorEq, false_iff]
    omega

theorem argSlot_eq_none_iff {s : State} : argSlot s = none ↔ 32 ≤ s.port.arg0.toNat := by
  unfold argSlot arg0
  split <;> simp <;> omega

theorem exec_inspect_badArg {s : State} (h : 32 ≤ s.port.arg0.toNat) :
    exec .inspect s = .next (answered 13 6 0 0 0 s) := by
  change Host.Outcome.next (commandInspect (takeCommand 13 s)) = _
  rw [commandInspect, argSlot_eq_none_iff (s := takeCommand 13 s) |>.mpr h]
  rfl

theorem exec_inspect {s : State} {k : Slot} (h : s.port.arg0.toNat = k.val) :
    exec .inspect s = .next (if s.control.state = .member ∨ s.control.state = .syncing then
      let w := inspectWords (s.record.bind (fun r => entryAt r k))
      answered 13 1 w.1 w.2.1 w.2.2 s else answered 13 7 0 0 0 s) := by
  change Host.Outcome.next (commandInspect (takeCommand 13 s)) = _
  rw [commandInspect, argSlot_eq_some_iff (s := takeCommand 13 s) |>.mpr h]
  rfl

end Sys2Proof.Machine

namespace Sys2Proof.Proofs

open Sys2Proof.Machine

/-- Settles O15: each read by the two cases of its queue, its words by their layouts. -/
theorem queueReadsRemoveTheOldest : Obligations.QueueReadsRemoveTheOldest := by
  refine ⟨fun s => ⟨exec_readCompletion_nil, fun c rest h => ?_⟩,
    fun s => ⟨exec_readFault_nil, fun f rest h => ⟨_, exec_readFault_cons h, ?_, faultWord_eq f⟩⟩⟩
  · rw [exec_readCompletion_cons h, completionWord_eq, nameWord_eq]
  · rw [← seqWord_eq]
    rfl

/-- Settles O16: INSPECT by its argument, the state and the slot's entry, STATUS and its location by the layouts
of their words. -/
theorem inspectAndStatusAnswer : Obligations.InspectAndStatusAnswer := by
  refine ⟨fun s => ⟨exec_inspect_badArg, fun hslot hmember hsyncing => ?_, fun hstate r hr =>
    ⟨fun hslot hfree => ?_, fun e he hordered hslot hrevokes => ?_⟩⟩, fun s _ _ _ _ => ?_⟩
  · rw [exec_inspect (k := ⟨_, hslot⟩) rfl, if_neg (by simp [hmember, hsyncing])]
  · have hnone : entryAt r ⟨_, hslot⟩ = none := entryAt_none.mpr fun e he h => hfree e he (by rw [h])
    rw [exec_inspect (k := ⟨_, hslot⟩) rfl, if_pos hstate, hr, Option.bind_some, hnone]
    rfl
  · have hsome : entryAt r e.slot = some e := (entryAt_iff hordered).mpr ⟨he, rfl⟩
    rw [exec_inspect hslot.symm, if_pos hstate, hr, Option.bind_some, hsome, inspectWords_some]
  · intro unread
    refine ⟨?_, ?_⟩
    · change Host.Outcome.next (commandStatus (takeCommand 14 s)) = _
      rw [commandStatus, statusWord_eq, seqWord_eq, copySeq_eq, copyMembers_eq]
      rfl
    · exact statusLocation_eq s

end Sys2Proof.Proofs
end


section
/-! The host's commands: the checks each makes in the order of R154, and what each leaves when it is accepted. -/

set_option Elab.async false

namespace Sys2Proof.Machine

/-! ### The request line follows (R25) -/

theorem updateRequest_bus_of {v : State} {b : Bus} (h : v.bus = b) :
    (updateRequest v).bus = b.requestAs (updateRequest v).bus := by
  subst h
  rfl

theorem answerCode_port {r : Word32} {v : State} {p : Port} (h : v.port = p) :
    (answerCode r v).port = { p with result0 := r, result1 := 0, result2 := 0, result3 := 0 } := by
  subst h
  rfl

/-! ### PAUSE, RESUME and the want (R138, R148) -/

theorem wantsToClaim_congr {s t : State} (hcontrol : t.control.state = s.control.state)
    (hclaim : t.claim = s.claim) (hrecord : t.record = s.record) (hport : t.port.store.d = s.port.store.d)
    (hnumber : t.number = s.number) : wantsToClaim t = wantsToClaim s := by
  simp only [wantsToClaim, grantRoom, candidates, hcontrol, hclaim, hrecord, hport, hnumber]

theorem clashes_claim (a : Aim) : a.clashes .claim = (a == .claim) := by cases a <;> rfl

theorem takesIn_of_wants {s : State} (h : wantsToClaim s = true) : takesIn s.control.state .claim = true := by
  unfold wantsToClaim at h
  simp only [Bool.and_eq_true, beq_iff_eq] at h
  obtain ⟨⟨⟨hstate, -⟩, -⟩, -⟩ := h
  rw [hstate]
  rfl

/-- What `updateWant` leaves: a CLAIM held exactly while the claim unit wants to claim, the rest as it was. -/
theorem updateWant_claim (s : State) : holdsAim (· == .claim) (updateWant s) = wantsToClaim s := by
  unfold updateWant holdsAim
  cases h : wantsToClaim s with
  | true =>
    obtain ⟨p, hp, hp'⟩ := addPurpose_held (takesIn_of_wants h)
    rw [if_pos rfl, List.any_eq_true]
    refine ⟨p, hp, ?_⟩
    rw [clashes_claim] at hp'
    simpa using hp'
  | false =>
    rw [if_neg (by simp), List.any_eq_false]
    intro p hp
    simpa using (mem_dropPurposes.mp hp).2

theorem updateWant_agenda_cases (s : State) :
    (updateWant s).agenda.purposes = s.agenda.purposes ∨
    (∃ age, (updateWant s).agenda.purposes = s.agenda.purposes ++ [⟨.claim, age, 0, none⟩] ∧
      holdsAim (· == .claim) s = false) ∨
    (wantsToClaim s = false ∧
      (updateWant s).agenda.purposes = s.agenda.purposes.filter (fun p => p.aim != .claim)) := by
  unfold updateWant
  split
  · rcases addPurpose_cases .claim s with ⟨-, hfree, heq⟩ | ⟨-, heq⟩
    · refine .inr (.inl ⟨s.agenda.nextAge, by rw [heq]; rfl, ?_⟩)
      simpa [holdsAim, clashes_claim] using hfree
    · exact .inl (by rw [heq])
  · rename_i h
    exact .inr (.inr ⟨by simpa using h, rfl⟩)

theorem updateWant_others (s : State) :
    (updateWant s).agenda.purposes.filter (fun q => q.aim != .claim) =
      s.agenda.purposes.filter (fun q => q.aim != .claim) := by
  rcases updateWant_agenda_cases s with h | ⟨age, h, -⟩ | ⟨-, h⟩ <;> rw [h]
  · simp
  · rw [List.filter_filter]
    simp

theorem updateWant_sent_idle (s : State) :
    (updateWant s).agenda.sent = s.agenda.sent ∧ (updateWant s).agenda.idle = s.agenda.idle := by
  unfold updateWant
  split
  · rcases addPurpose_cases .claim s with ⟨-, -, heq⟩ | ⟨-, heq⟩ <;> rw [heq] <;> exact ⟨rfl, rfl⟩
  · exact ⟨rfl, rfl⟩

/-! ### Adds that the state takes in -/

theorem clashes_done (h : Handle) (a : Aim) : a.clashes (.done h) = (a == .done h) := by
  cases a <;> simp [Aim.clashes]

theorem clashes_offer (x : Source) (p : Priority) (a : Aim) : a.clashes (.offer x p) = offerOf x a := by
  cases a <;> rfl

theorem takesIn_of_member {s : State} {a : Aim} (h : s.control.state = .member ∨ s.control.state = .leaving)
    (ha : a ≠ .join ∧ a ≠ .found ∧ a ≠ .departureNull) : takesIn s.control.state a = true := by
  obtain ⟨hj, hf, hn⟩ := ha
  rcases h with h | h <;> rw [h] <;> simp [takesIn, hj, hf, hn]

theorem addPurpose_offer {s : State} (h : s.control.state = .member) (x : Source) (p : Priority) :
    addPurpose (.offer x p) s = s.setAgenda (s.agenda.gains (offerOf x) (.offer x p)) :=
  addPurpose_gains (takesIn_of_member (.inl h) (by simp)) (fun q _ => (clashes_offer x p q.aim).symm)

theorem addPurpose_done {s : State} (h : s.control.state = .member ∨ s.control.state = .leaving) (d : Handle) :
    addPurpose (.done d) s = s.setAgenda (s.agenda.gains (· == .done d) (.done d)) :=
  addPurpose_gains (takesIn_of_member h (by simp)) (fun q _ => (clashes_done d q.aim).symm)

/-- A line that enters WANT in MEMBER gains an OFFER purpose of its priority (R119). -/
theorem lineWants_eq {n : Line} {s : State} (h : s.control.state = .member) : lineWants n s =
    (changeLine n (fun l => { l with state := .want }) s).setAgenda
      (s.agenda.gains (offerOf (.line n)) (.offer (.line n) s.origin.lines[n].priority)) :=
  addPurpose_offer (s := changeLine n _ s) h _ _

/-! ### FINISH (R143) -/

theorem finishHandle_eq_none {s : State} (h : 32 ≤ s.port.arg0.toNat ∨ 65536 ≤ s.port.arg1.toNat) :
    finishHandle s = none := by
  unfold finishHandle arg0 arg1
  split <;> rename_i hslot
  · exact if_neg (by omega)
  · rfl

theorem finishHandle_eq_some {s : State} (hslot : s.port.arg0.toNat < 32) (htag : s.port.arg1.toNat < 65536) :
    finishHandle s = some ⟨⟨s.port.arg0.toNat, hslot⟩, BitVec.ofNat 16 s.port.arg1.toNat⟩ := by
  unfold finishHandle arg0 arg1
  rw [dif_pos hslot, if_pos htag]

theorem finishHandle_of_handle {s : State} {h : Handle} (hslot : h.slot.val = s.port.arg0.toNat)
    (htag : h.tag.toNat = s.port.arg1.toNat) : finishHandle s = some h := by
  rw [finishHandle_eq_some (hslot ▸ h.slot.isLt) (htag ▸ h.tag.isLt)]
  obtain ⟨slot, tag⟩ := h
  simp only [← hslot, ← htag, BitVec.ofNat_toNat, BitVec.setWidth_eq]

theorem commandFinish_badArg {s : State} (h : finishHandle s = none) : commandFinish s = answerCode codeBadArg s := by
  rw [commandFinish, h]

theorem commandFinish_stale {s : State} {h : Handle} (hh : finishHandle s = some h)
    (hnone : ∀ g ∈ s.claim.grants, g.handle ≠ h) : commandFinish s = answerCode codeStale s := by
  have hfind : s.claim.grants.find? (fun g => g.handle == h) = none := by simpa using hnone
  rw [commandFinish, hh]
  dsimp only
  rw [hfind]

/-- With no two grant records of one slot, FINISH finds the record its handle names (R141). -/
theorem commandFinish_found {s : State} {g : Grant} (hh : finishHandle s = some g.handle) (hg : g ∈ s.claim.grants)
    (hnodup : (s.claim.grants.map (fun g => g.handle.slot)).Nodup) :
    commandFinish s = if g.state = .inService ∧ s.control.state ≠ .departing then
      answerCode codeAccepted (updateRequest (addPurpose (.done g.handle)
        (s.setClaim { s.claim with grants := finishGrant g.handle s.claim.grants })))
      else answerCode codeRefusedState s := by
  have hfind : s.claim.grants.find? (fun x => x.handle == g.handle) = some g := by
    cases hf : s.claim.grants.find? (fun x => x.handle == g.handle) with
    | none => exact absurd (List.find?_eq_none.mp hf g hg) (by simp)
    | some x =>
      have hx : x.handle = g.handle := by simpa using List.find?_some hf
      rw [List.inj_on_of_nodup_map hnodup (List.mem_of_find?_eq_some hf) hg (by rw [hx])]
  rw [commandFinish, hh]
  dsimp only
  rw [hfind]

/-! ### ENABLE_LINE (R129) -/

theorem argLine_eq_none {s : State} (h : 16 ≤ s.port.arg0.toNat) : argLine s = none := by
  unfold argLine arg0
  exact dif_neg (by omega)

theorem argLine_eq_some {s : State} {n : Line} (h : s.port.arg0.toNat = n.val) : argLine s = some n := by
  unfold argLine arg0
  rw [dif_pos (by omega)]
  exact congrArg some (Fin.ext h)

theorem commandEnableLine_badArg {s : State} (h : argLine s = none) :
    commandEnableLine s = answerCode codeBadArg s := by
  rw [commandEnableLine, h]

theorem commandEnableLine_named {s : State} {n : Line} (h : argLine s = some n) :
    commandEnableLine s = if s.origin.lines[n].state = .holdoff then
      answerCode codeAccepted (updateRequest
        (evaluateLine n (changeLine n (fun l => { l with state := .idle }) s)))
      else answerCode codeRefusedState s := by
  rw [commandEnableLine, h]

/-- An active level line in IDLE enters WANT at a member, any other stays (R119, R124). -/
theorem evaluateLine_eq (n : Line) (s : State) : evaluateLine n s =
    if s.origin.lines[n].state = .idle ∧ s.control.state = .member ∧ lineActive s n = true then
      (changeLine n (fun l => { l with state := .want }) s).setAgenda
        (s.agenda.gains (offerOf (.line n)) (.offer (.line n) s.origin.lines[n].priority))
    else s := by
  unfold evaluateLine
  split
  · rename_i h
    exact lineWants_eq h.2.1
  · rfl

theorem lineActive_changeLine {n m : Line} {f : LineRecord → LineRecord} {s : State} (hf : ∀ l, (f l).mode = l.mode) :
    lineActive (changeLine n f s) m = lineActive s m := by
  have hmode : (changeLine n f s).origin.lines[m].mode = s.origin.lines[m].mode := by
    rw [changeLine_lines]
    split
    · rename_i h
      rw [hf, h]
    · rfl
  unfold lineActive
  rw [hmode]
  rfl

theorem changeLine_changeLine (n : Line) (f g : LineRecord → LineRecord) (s : State) :
    changeLine n f (changeLine n g s) = changeLine n (fun l => f (g l)) s := by
  simp only [changeLine, State.setOrigin_origin, Fin.getElem_fin, Vector.getElem_set_self, Vector.set_set]
  rfl

/-- A line taken to IDLE and evaluated (R118, R129). -/
theorem evaluateLine_toIdle (n : Line) (s : State) :
    evaluateLine n (changeLine n (fun l => { l with state := .idle }) s) =
      if s.control.state = .member ∧ lineActive s n = true then
        (changeLine n (fun l => { l with state := .want }) s).setAgenda
          (s.agenda.gains (offerOf (.line n)) (.offer (.line n) s.origin.lines[n].priority))
      else changeLine n (fun l => { l with state := .idle }) s := by
  have hidle : (changeLine n (fun l => { l with state := .idle }) s).origin.lines[n] =
      { s.origin.lines[n] with state := .idle } := by rw [changeLine_lines, if_pos rfl]
  have hactive : lineActive (changeLine n (fun l => { l with state := .idle }) s) n = lineActive s n :=
    lineActive_changeLine fun _ => rfl
  rw [evaluateLine_eq, hactive, changeLine_changeLine, hidle]
  simp only [true_and]
  rfl

end Sys2Proof.Machine

namespace Sys2Proof.Proofs

open Sys2Proof.Machine

/-- Settles O10, by what `updateWant` leaves. -/
theorem pauseAndResumeOnlyMoveTheWant : Obligations.PauseAndResumeOnlyMoveTheWant := by
  intro s p
  let code : Word32 := if p then 5 else 6
  let u := (takeCommand code s).setClaim { s.claim with paused := p }
  have hexec : exec (if p then .pause else .resume) s =
      .next (answerCode codeAccepted (updateRequest (updateWant u))) := by cases p <;> rfl
  obtain ⟨hnumber, hbus, hrecord, hcontrol, horigin, hclaim, hport, -⟩ := updateWant_frame u
  obtain ⟨hsent, hidle⟩ := updateWant_sent_idle u
  have hwants : wantsToClaim (updateWant u) = wantsToClaim u :=
    wantsToClaim_congr (by rw [hcontrol]) hclaim hrecord (by rw [hport]) hnumber
  have hport' := answerCode_port (r := codeAccepted) (v := updateRequest (updateWant u)) hport
  refine ⟨_, hexec, hclaim, hnumber, hrecord, hcontrol, horigin, updateRequest_bus_of hbus, ?_, hsent, hidle,
    (updateWant_claim u).trans hwants.symm, updateWant_others u, fun hw hstanding => ?_⟩
  · cases p <;> exact hport'
  · rcases updateWant_agenda_cases u with h | ⟨-, -, hnone⟩ | ⟨hnot, -⟩
    · exact h
    · exact absurd hstanding (by rw [show holdsAim (· == .claim) s = false from hnone]; decide)
    · exact absurd (hwants.symm.trans hw) (by rw [hnot]; decide)

/-- Settles O12, by the grant record that the handle names. -/
theorem finishByGrantRecord : Obligations.FinishByGrantRecord := by
  intro s slot tag
  have hexec : exec .finish s = .next (commandFinish (takeCommand 8 s)) := rfl
  refine ⟨fun h => ?_, fun hslot htag hnone => ?_, fun g hg hsound hslot htag => ?_⟩
  · rw [hexec, commandFinish_badArg (s := takeCommand 8 s) (finishHandle_eq_none h)]
    rfl
  · rw [hexec, commandFinish_stale (s := takeCommand 8 s) (finishHandle_eq_some hslot htag)]
    · rfl
    · intro g hg h
      refine hnone g hg ⟨by rw [h], ?_⟩
      rw [h, BitVec.toNat_ofNat, Nat.mod_eq_of_lt htag]
  · obtain ⟨-, -, hnodup, -⟩ := hsound
    rw [hexec, commandFinish_found (s := takeCommand 8 s) (finishHandle_of_handle hslot htag) hg hnodup]
    refine ⟨fun h => ?_, fun hservice hstate => ?_⟩
    · rw [if_neg (by rintro ⟨h1, h2⟩; exact h.elim (· h1) h2)]
      rfl
    · have hnot : s.control.state ≠ .departing := by rcases hstate with h | h <;> simp [h]
      rw [if_pos ⟨hservice, hnot⟩, addPurpose_done (s := (takeCommand 8 s).setClaim _) hstate]
      exact ⟨_, rfl, rfl, rfl, rfl, rfl, rfl, rfl, rfl, rfl⟩

/-- Settles O14, by the line named and whether it is active. -/
theorem enableLineLeavesHoldoff : Obligations.EnableLineLeavesHoldoff := by
  intro s
  have hexec : exec .enableLine s = .next (commandEnableLine (takeCommand 10 s)) := rfl
  refine ⟨fun h => ?_, fun n hn => ⟨fun h => ?_, fun h => ?_⟩⟩
  · rw [hexec, commandEnableLine_badArg (s := takeCommand 10 s) (argLine_eq_none h)]
    rfl
  · rw [hexec, commandEnableLine_named (s := takeCommand 10 s) (argLine_eq_some hn)]
    exact congrArg _ (if_neg h)
  · have hrun : commandEnableLine (takeCommand 10 s) = answerCode codeAccepted (updateRequest
        (evaluateLine n (changeLine n (fun l => { l with state := .idle }) (takeCommand 10 s)))) :=
      (commandEnableLine_named (s := takeCommand 10 s) (argLine_eq_some hn)).trans (if_pos h)
    rw [hexec, hrun, evaluateLine_toIdle]
    by_cases hwant : s.control.state = .member ∧ lineActive s n = true
    · simp only [if_pos hwant]
      rw [if_pos (show (takeCommand 10 s).control.state = .member ∧ lineActive (takeCommand 10 s) n = true from hwant)]
      exact ⟨_, rfl, fun m => changeLine_lines n m (fun l => { l with state := .want }) s, rfl, rfl, rfl, rfl, rfl, rfl, rfl⟩
    · simp only [if_neg hwant]
      rw [if_neg (show ¬((takeCommand 10 s).control.state = .member ∧ lineActive (takeCommand 10 s) n = true) from hwant)]
      exact ⟨_, rfl, fun m => changeLine_lines n m (fun l => { l with state := .idle }) s, rfl, rfl, rfl, rfl, rfl, rfl, rfl⟩

end Sys2Proof.Proofs
end


section
/-! RAISE and the id it assigns (R130), and SET and START with the configuration store (R155, R156). -/

set_option Elab.async false

namespace Sys2Proof.Machine

/-! ### The id RAISE assigns (R130) -/

theorem raiseWith_eq_none {s : State} {id : RaiseId} :
    raiseWith s id = none ↔ ∀ r ∈ s.origin.raises, r.id ≠ id := by
  simp [raiseWith]

/-- Fewer raise records than ids leave an id free. -/
theorem exists_free_id {s : State} (h : s.origin.raises.length < 256) :
    ∃ i < 256, raiseWith s (s.origin.nextRaise + BitVec.ofNat 8 i) = none := by
  by_contra hcon
  push Not at hcon
  have hall : ∀ i < 256, s.origin.nextRaise + BitVec.ofNat 8 i ∈ s.origin.raises.map RaiseRecord.id := by
    intro i hi
    have := hcon i hi
    rw [ne_eq, raiseWith_eq_none] at this
    push Not at this
    obtain ⟨r, hr, hid⟩ := this
    exact List.mem_map.mpr ⟨r, hr, hid⟩
  have hnodup : ((List.range 256).map (fun i => s.origin.nextRaise + BitVec.ofNat 8 i)).Nodup := by
    refine (List.nodup_map_iff_inj_on List.nodup_range).mpr fun i hi j hj hij => ?_
    have := congrArg BitVec.toNat (add_left_cancel hij)
    simp only [List.mem_range, BitVec.toNat_ofNat] at hi hj this
    omega
  have hsub : (List.range 256).map (fun i => s.origin.nextRaise + BitVec.ofNat 8 i) ⊆
      s.origin.raises.map RaiseRecord.id := by
    intro x hx
    obtain ⟨i, hi, rfl⟩ := List.mem_map.mp hx
    exact hall i (List.mem_range.mp hi)
  have := (hnodup.subperm hsub).length_le
  simp only [List.length_map, List.length_range] at this
  omega

/-- The id assigned is the first from the counter up that no record holds. -/
theorem nextRaiseId_first {s : State} (h : s.origin.raises.length < 256) :
    ∃ i < 256, nextRaiseId s = s.origin.nextRaise + BitVec.ofNat 8 i ∧ raiseWith s (nextRaiseId s) = none ∧
      ∀ k < i, raiseWith s (s.origin.nextRaise + BitVec.ofNat 8 k) ≠ none := by
  let free := fun i => (raiseWith s (s.origin.nextRaise + BitVec.ofNat 8 i)).isNone
  obtain ⟨i, hi, hfree⟩ : ∃ i, (List.range 256).find? free = some i ∧ free i = true := by
    obtain ⟨i, hi, hnone⟩ := exists_free_id h
    have hsome : ((List.range 256).find? free).isSome := by
      rw [List.find?_isSome]
      exact ⟨i, List.mem_range.mpr hi, by simp [free, hnone]⟩
    obtain ⟨j, hj⟩ := Option.isSome_iff_exists.mp hsome
    exact ⟨j, hj, List.find?_some hj⟩
  have heq : nextRaiseId s = s.origin.nextRaise + BitVec.ofNat 8 i := by
    unfold nextRaiseId
    rw [List.find?_map]
    change (((List.range 256).find? free).map _).getD _ = _
    rw [hi]
    rfl
  obtain ⟨-, hlt, hbelow⟩ := List.find?_range_eq_some.mp hi
  refine ⟨i, List.mem_range.mp hlt, heq, ?_, fun k hk => ?_⟩
  · rw [heq]
    simpa [free] using hfree
  · have := hbelow k hk
    simpa [free, Option.ne_none_iff_isSome] using this

/-! ### RAISE -/

theorem raiseArgsOk_iff {s : State} : raiseArgsOk (raiseArgs s) = true ↔
    (s.port.arg0.extractLsb' 0 16).toNat ≤ 8191 ∧ (s.port.arg0.extractLsb' 16 8).toNat ≤ 7 ∧
      s.port.arg1.extractLsb' 0 16 ≠ 0 ∧ s.port.arg3.toNat ≤ 65535 := by
  unfold raiseArgsOk
  simp only [Bool.and_eq_true, decide_eq_true_eq, bne_iff_ne, and_assoc]
  rfl

theorem commandRaise_badArg {s : State} (h : raiseArgsOk (raiseArgs s) = false) :
    commandRaise s = answerCode codeBadArg s := if_pos h

theorem commandRaise_full {s : State} (h : raiseArgsOk (raiseArgs s) = true) (hfull : 8 ≤ s.origin.raises.length) :
    commandRaise s = answerCode codeFull s :=
  (if_neg (by simp [h])).trans (if_pos hfull)

theorem commandRaise_busy {s : State} (h : raiseArgsOk (raiseArgs s) = true) (hroom : s.origin.raises.length < 8)
    (hfull : 16 ≤ s.port.reserved + s.port.completions.length) : commandRaise s = answerCode codeBusy s :=
  (if_neg (by simp [h])).trans ((if_neg (Nat.not_le.mpr hroom)).trans (if_pos (freeReservations_eq_zero_iff.mpr hfull)))

theorem commandRaise_accepted {s : State} (h : raiseArgsOk (raiseArgs s) = true)
    (hroom : s.origin.raises.length < 8) (hfree : s.port.reserved + s.port.completions.length < 16) :
    commandRaise s = answerHost codeAccepted (place 0 8 (nextRaiseId s).toNat) 0 0
      (updateRequest (raiseAccepted (nextRaiseId s) (raiseArgs s) s)) :=
  (if_neg (by simp [h])).trans ((if_neg (Nat.not_le.mpr hroom)).trans
    (if_neg (mt freeReservations_eq_zero_iff.mp (Nat.not_le.mpr hfree))))

/-- The state with the raise record appended on its reservation. -/
def raiseHeld (id : RaiseId) (a : RaiseArgs) (s : State) : State :=
  reserve (s.setOrigin { s.origin with raises := s.origin.raises ++ [raisedRecord id a], nextRaise := id + 1 })

theorem raiseAccepted_eq (id : RaiseId) (a : RaiseArgs) (s : State) : raiseAccepted id a s =
    (raiseHeld id a s).setAgenda (if s.control.state = .member then
      s.agenda.gains (offerOf (.raise id)) (.offer (.raise id) (BitVec.ofNat 3 a.priority)) else s.agenda) := by
  unfold raiseAccepted
  by_cases h : s.control.state = .member
  · rw [if_pos h, if_pos h]
    exact addPurpose_offer (s := raiseHeld id a s) h _ _
  · rw [if_neg h, if_neg h]
    rfl

theorem setWidth_eq_zero_append (id : RaiseId) : id.setWidth 32 = 0#24 ++ id := by
  rw [← setWidth_zero_append _ 24]
  simp

end Sys2Proof.Machine

namespace Sys2Proof.Proofs

open Sys2Proof.Machine

/-- Settles O13, by the checks in their order; the id is the first free one from the counter up. -/
theorem raiseAppendsQueuedRecord : Obligations.RaiseAppendsQueuedRecord := by
  intro s code prio targets argsOk
  have hexec : exec .raise s = .next (commandRaise (takeCommand 9 s)) := rfl
  have hok : raiseArgsOk (raiseArgs (takeCommand 9 s)) = true ↔ argsOk := raiseArgsOk_iff (s := takeCommand 9 s)
  refine ⟨fun h => ?_, fun h hfull => ?_, fun h hroom hfull => ?_, fun h hroom hfree => ?_⟩
  · rw [hexec, commandRaise_badArg (by simpa using mt hok.mp h)]
    rfl
  · rw [hexec, commandRaise_full (hok.mpr h) hfull]
    rfl
  · rw [hexec, commandRaise_busy (hok.mpr h) hroom hfull]
    rfl
  · obtain ⟨i, hi, hid, hnone, hbelow⟩ := nextRaiseId_first (s := takeCommand 9 s)
      (show s.origin.raises.length < 256 by omega)
    rw [hexec, commandRaise_accepted (hok.mpr h) hroom hfree, raiseAccepted_eq, raiseWord_eq,
      ← setWidth_eq_zero_append]
    refine ⟨_, nextRaiseId (takeCommand 9 s), rfl, raiseWith_eq_none.mp hnone, fun k hk => ?_, rfl, rfl, rfl, rfl,
      rfl, rfl, rfl, rfl⟩
    have hki : k < i := by
      rw [hid] at hk
      simp only [takeCommand, State.setPort_origin, add_sub_cancel_left, BitVec.toNat_ofNat] at hk
      omega
    have hheld := hbelow k hki
    rw [ne_eq, raiseWith_eq_none] at hheld
    push Not at hheld
    exact hheld

end Sys2Proof.Proofs
end


section
/-! SET and START (R155, R156): the rows of the configuration table, the item written, and the entry into LISTEN. -/

set_option Elab.async false

namespace Sys2Proof.Machine

/-! ### The rows of the table (R155) -/

theorem setInRange_iff {item index value : Nat} : setInRange item index value = true ↔ configAccepts item index value := by
  obtain _ | _ | _ | _ | _ | _ | _ | _ | _ | _ | _ | _ | _ | _ | _ | _ | _ | _ | item := item
  all_goals simp [setInRange, configAccepts, configRows]

theorem configAccepts_bounds {item index value : Nat} (h : configAccepts item index value) :
    1 ≤ item ∧ item ≤ 17 ∧ (9 ≤ item → item ≤ 14 → index < 16) ∧ (15 ≤ item → index < 4) := by
  obtain ⟨row, hrow, rfl, hindex, -⟩ := h
  simp only [configRows, List.mem_cons, List.not_mem_nil, or_false] at hrow
  rcases hrow with rfl | rfl | rfl | rfl | rfl | rfl | rfl | rfl | rfl | rfl | rfl | rfl | rfl | rfl | rfl | rfl | rfl
  all_goals simp_all

/-! ### The item SET writes -/

/-- The store with one of its own items set. -/
def storeItem (i v : Nat) (c : Store) : Store :=
  if i = 1 then { c with q := v }
  else if i = 2 then { c with e := v }
  else if i = 3 then { c with l := v }
  else if i = 4 then { c with v := v }
  else if i = 5 then { c with ti := v }
  else if i = 6 then { c with tq := v }
  else if i = 7 then { c with d := v }
  else if i = 8 then { c with raiseTimeout := v }
  else c

/-- A line record with one item of its configuration set. -/
def lineItem (i v : Nat) (l : LineRecord) : LineRecord :=
  if i = 9 then { l with enabled := decide (v = 1) }
  else if i = 10 then { l with mode :=
    if v = 0 then .levelHigh else if v = 1 then .levelLow else if v = 2 then .edgeRise else .edgeFall }
  else if i = 11 then { l with code := BitVec.ofNat 13 v }
  else if i = 12 then { l with priority := BitVec.ofNat 3 v }
  else if i = 13 then { l with targets := BitVec.ofNat 16 v }
  else { l with timeout := v }

/-- A filter with one item set. -/
def filterItem (i v : Nat) (f : Filter) : Filter :=
  if i = 15 then { f with enabled := decide (v = 1) }
  else if i = 16 then { f with base := BitVec.ofNat 13 v }
  else { f with mask := BitVec.ofNat 13 v }

theorem modeOf_eq (v : Nat) : modeOf v =
    if v = 0 then .levelHigh else if v = 1 then .levelLow else if v = 2 then .edgeRise else .edgeFall := by
  obtain _ | _ | _ | v := v <;> rfl

theorem beq_eq_decide_nat (a b : Nat) : (a == b) = decide (a = b) := by
  rw [Bool.eq_iff_iff, beq_iff_eq, decide_eq_true_eq]

theorem setItem_store {i : Nat} (h : 1 ≤ i ∧ i ≤ 8) (x v : Nat) : setItem i x v = setStore (storeItem i v) := by
  obtain ⟨h1, h8⟩ := h
  interval_cases i <;> rfl

theorem setItem_line {i : Nat} (h : 9 ≤ i ∧ i ≤ 14) (x v : Nat) : setItem i x v = setLine x (lineItem i v) := by
  obtain ⟨h9, h14⟩ := h
  interval_cases i
  · simp only [setItem, beq_eq_decide_nat]
    rfl
  · simp only [setItem, modeOf_eq]
    rfl
  all_goals rfl

theorem setItem_filter {i : Nat} (h : 15 ≤ i ∧ i ≤ 17) (x v : Nat) :
    setItem i x v = setFilter x (filterItem i v) := by
  obtain ⟨h15, h17⟩ := h
  interval_cases i
  · simp only [setItem, beq_eq_decide_nat]
    rfl
  all_goals rfl

theorem storeItem_of_ge {i : Nat} (h : 9 ≤ i) (v : Nat) (c : Store) : storeItem i v c = c := by
  unfold storeItem
  simp only [show i ≠ 1 by omega, show i ≠ 2 by omega, show i ≠ 3 by omega, show i ≠ 4 by omega,
    show i ≠ 5 by omega, show i ≠ 6 by omega, show i ≠ 7 by omega, show i ≠ 8 by omega, if_false]

/-- A line whose configuration SET has set starts over (R116). -/
theorem setLine_lines {x : Nat} (hx : x < 16) (f : LineRecord → LineRecord) (s : State) (n : Line) :
    (setLine x f s).origin.lines[n] =
      if n.val = x then lineReset (f s.origin.lines[n]) else s.origin.lines[n] := by
  have hn : Fin.ofNat 16 x = n ↔ n.val = x := by
    rw [Fin.ext_iff, Fin.val_ofNat, Nat.mod_eq_of_lt hx]
    exact eq_comm
  unfold setLine
  rw [changeLine_lines]
  by_cases h : n.val = x
  · rw [if_pos h, if_pos (hn.mpr h).symm, hn.mpr h]
  · rw [if_neg h, if_neg (fun e => h (hn.mp e.symm))]

theorem setFilter_filters {x : Nat} (hx : x < 4) (f : Filter → Filter) (s : State) (k : Fin 4) :
    (setFilter x f s).claim.filters[k] = if k.val = x then f s.claim.filters[k] else s.claim.filters[k] := by
  have hval : (Fin.ofNat 4 x).val = x := Nat.mod_eq_of_lt hx
  simp only [setFilter, State.setClaim_claim, Fin.getElem_fin, Vector.getElem_set, hval]
  by_cases h : k.val = x
  · simp [h]
  · rw [if_neg h, if_neg (fun e => h e.symm)]

/-! ### SET -/

theorem commandSet_badArg {s : State} (h : ¬configAccepts (arg0 s) (arg1 s) (arg2 s)) :
    commandSet s = answerCode codeBadArg s :=
  if_pos (by simpa using mt setInRange_iff.mp h)

theorem commandSet_refused {s : State} (h : configAccepts (arg0 s) (arg1 s) (arg2 s))
    (hstate : s.control.state ≠ .offline ∨ s.port.store.locked = true) :
    commandSet s = answerCode codeRefusedState s :=
  (if_neg (by simp [setInRange_iff.mpr h])).trans (if_pos hstate)

theorem commandSet_accepted {s : State} (h : configAccepts (arg0 s) (arg1 s) (arg2 s))
    (hstate : s.control.state = .offline) (hlock : s.port.store.locked = false) :
    commandSet s = answerCode codeAccepted (setItem (arg0 s) (arg1 s) (arg2 s) s) :=
  (if_neg (by simp [setInRange_iff.mpr h])).trans (if_neg (by simp [hstate, hlock]))

/-! ### START -/

theorem configOk_iff {s : State} : configOk s = true ↔ startChecks s := by
  have hlines : s.origin.lines.toList.all (fun l => !l.enabled || l.targets != 0) = true ↔
      ∀ n : Line, s.origin.lines[n].enabled = true → s.origin.lines[n].targets ≠ 0 := by
    simp only [List.all_eq_true, Vector.mem_toList_iff, Vector.mem_iff_getElem, Bool.or_eq_true, Bool.not_eq_true',
      bne_iff_ne]
    constructor
    · intro h n hn
      exact (h _ ⟨n.val, n.isLt, rfl⟩).resolve_left (ne_false_of_eq_true hn)
    · rintro h _ ⟨n, hn, rfl⟩
      by_cases he : s.origin.lines[n].enabled = true
      · exact .inr (h ⟨n, hn⟩ he)
      · exact .inl (by simpa using he)
  unfold configOk startChecks Config.idleUnit Config.milli Config.grantDepth
  simp only [Bool.and_eq_true, decide_eq_true_eq, and_assoc, hlines, Nat.mul_assoc]

/-- Entering LISTEN from OFFLINE: the pointer unlearned, the quiet timer started, the STATE cause raised (R97). -/
theorem changeState_listen_of_offline {s : State} (hstate : s.control.state = .offline)
    (hbackoff : s.control.backoff = none) :
    changeState .listen s =
      ((s.setBus { s.bus with pointer := 0, learned := false }).setControl
        { s.control with state := .listen, quiet := some (quietInterval s) }).setPort
      { s.port with stateCause := true } := by
  have hleave : leaveState s = s := by
    unfold leaveState
    rw [hstate]
  rw [changeState, hleave, enterState, enterListen]
  simp only [markState_control, hbackoff]
  rfl

end Sys2Proof.Machine

namespace Sys2Proof.Proofs

open Sys2Proof.Machine

/-- Settles O6, by the checks in their order; an accepted item is one of the store, of a line or of a filter. -/
theorem setChangesTheItemNamed : Obligations.SetChangesTheItemNamed := by
  intro s i x v
  have hexec : exec .set s = .next (commandSet (takeCommand 1 s)) := rfl
  refine ⟨fun h => ?_, fun h hstate => ?_, fun h hstate hlock => ?_⟩
  · rw [hexec, commandSet_badArg (s := takeCommand 1 s) h]
    rfl
  · rw [hexec, commandSet_refused (s := takeCommand 1 s) h hstate]
    rfl
  · have hrun : commandSet (takeCommand 1 s) = answerCode codeAccepted (setItem i x v (takeCommand 1 s)) :=
      commandSet_accepted h hstate hlock
    rw [hexec, hrun]
    refine ⟨_, rfl, ?_⟩
    obtain ⟨h1, h17, hline, hfilter⟩ := configAccepts_bounds h
    by_cases h8 : i ≤ 8
    · rw [setItem_store ⟨h1, h8⟩ x v]
      refine ⟨rfl, rfl, rfl, rfl, fun n => ?_, fun k => ?_⟩
      · exact (if_neg (by omega)).symm
      · exact ((if_neg (by omega)).trans ((if_neg (by omega)).trans (if_neg (by omega)))).symm
    by_cases h14 : i ≤ 14
    · have hx := hline (by omega) h14
      rw [setItem_line ⟨by omega, h14⟩ x v]
      refine ⟨rfl, rfl, rfl, (storeItem_of_ge (by omega) v _).symm, fun n => ?_, fun k => ?_⟩
      · refine (setLine_lines hx (lineItem i v) (takeCommand 1 s) n).trans ?_
        by_cases hn : n.val = x
        · rw [if_pos hn]
          exact (if_pos ⟨hn, by omega, h14⟩).symm
        · rw [if_neg hn]
          exact (if_neg (hn ·.1)).symm
      · exact ((if_neg (by omega)).trans ((if_neg (by omega)).trans (if_neg (by omega)))).symm
    · have hx := hfilter (by omega)
      rw [setItem_filter ⟨by omega, h17⟩ x v]
      refine ⟨rfl, rfl, rfl, (storeItem_of_ge (by omega) v _).symm, fun n => ?_, fun k => ?_⟩
      · exact (if_neg (by omega)).symm
      · refine (setFilter_filters hx (filterItem i v) (takeCommand 1 s) k).trans ?_
        by_cases hk : k.val = x
        · obtain h | h | h : i = 15 ∨ i = 16 ∨ i = 17 := by omega
          all_goals simp only [h, hk, filterItem, true_and, if_true]; rfl
        · rw [if_neg hk]
          exact ((if_neg (hk ·.1)).trans ((if_neg (hk ·.1)).trans (if_neg (hk ·.1)))).symm

/-- Settles O7, by the checks in their order and the entry into LISTEN from OFFLINE. -/
theorem startLocksAndListens : Obligations.StartLocksAndListens := by
  intro s
  have hexec : exec .start s = .next (commandStart (takeCommand 2 s)) := rfl
  refine ⟨fun h => ?_, fun hstate hchecks => ?_, fun hstate hchecks hplace => ?_⟩
  · rw [hexec]
    exact congrArg _ (if_pos h)
  · have hok : configOk (takeCommand 2 s) = false := by
      simpa using mt (configOk_iff (s := takeCommand 2 s)).mp hchecks
    rw [hexec]
    exact congrArg _ ((if_neg (not_not.mpr hstate)).trans (if_pos hok))
  · obtain ⟨-, -, -, -, -, -, -, hoff, -⟩ := hplace
    have hok : configOk (takeCommand 2 s) = true := configOk_iff.mpr hchecks
    have hrun : commandStart (takeCommand 2 s) = answerCode codeAccepted (changeState .listen
        (startObserving (setStore (fun c => { c with locked := true }) (takeCommand 2 s)))) :=
      (if_neg (not_not.mpr hstate)).trans (if_neg (ne_false_of_eq_true hok))
    rw [hexec, hrun, changeState_listen_of_offline]
    · rfl
    · exact hstate
    · exact (hoff (.inl hstate)).2

end Sys2Proof.Proofs
end


section
/-! A change of station state, block by block (R97), and what the operations that run over lists leave as it was. -/

set_option Elab.async false

namespace Sys2Proof.Machine

/-! ### Operations over lists -/

/-- A property of the state that each operation keeps is kept along a list. -/
theorem foldl_keeps {α β : Type} {f : State → α → State} {g : State → β} (h : ∀ s a, g (f s a) = g s) (l : List α)
    (s : State) : g (l.foldl f s) = g s := by
  induction l generalizing s with
  | nil => rfl
  | cons a l ih => exact (ih (f s a)).trans (h s a)

@[simp] theorem postDepartures_frame (ds : List (Station × DepartureCause)) (s : State) :
    (postDepartures ds s).number = s.number ∧ (postDepartures ds s).bus = s.bus ∧
      (postDepartures ds s).record = s.record ∧ (postDepartures ds s).agenda = s.agenda ∧
      (postDepartures ds s).control = s.control ∧ (postDepartures ds s).origin = s.origin ∧
      (postDepartures ds s).claim = s.claim ∧ (postDepartures ds s).pending = s.pending := by
  refine ⟨foldl_keeps ?_ _ s, foldl_keeps ?_ _ s, foldl_keeps ?_ _ s, foldl_keeps ?_ _ s, foldl_keeps ?_ _ s,
    foldl_keeps ?_ _ s, foldl_keeps ?_ _ s, foldl_keeps ?_ _ s⟩ <;> intro u d <;> simp

@[simp] theorem postOwnPlace_frame (a b : Bool) (s : State) :
    (postOwnPlace a b s).number = s.number ∧ (postOwnPlace a b s).bus = s.bus ∧
      (postOwnPlace a b s).record = s.record ∧ (postOwnPlace a b s).agenda = s.agenda ∧
      (postOwnPlace a b s).control = s.control ∧ (postOwnPlace a b s).origin = s.origin ∧
      (postOwnPlace a b s).claim = s.claim ∧ (postOwnPlace a b s).pending = s.pending := by
  rw [postOwnPlace_cases]
  cases a <;> cases b <;> simp

@[simp] theorem postDuplicate_frame (b : Bool) (s : State) :
    (postDuplicate b s).number = s.number ∧ (postDuplicate b s).bus = s.bus ∧
      (postDuplicate b s).record = s.record ∧ (postDuplicate b s).agenda = s.agenda ∧
      (postDuplicate b s).control = s.control ∧ (postDuplicate b s).origin = s.origin ∧
      (postDuplicate b s).claim = s.claim ∧ (postDuplicate b s).pending = s.pending := by
  unfold postDuplicate
  split <;> simp

@[simp] theorem originReacts_all_frame (sent : Option Sent) (cs : List EntryChange) (s : State) :
    (cs.foldl (originReacts sent) s).number = s.number ∧ (cs.foldl (originReacts sent) s).bus = s.bus ∧
      (cs.foldl (originReacts sent) s).record = s.record ∧ (cs.foldl (originReacts sent) s).control = s.control ∧
      (cs.foldl (originReacts sent) s).claim = s.claim ∧ (cs.foldl (originReacts sent) s).pending = s.pending := by
  refine ⟨foldl_keeps ?_ cs s, foldl_keeps ?_ cs s, foldl_keeps ?_ cs s, foldl_keeps ?_ cs s, foldl_keeps ?_ cs s,
    foldl_keeps ?_ cs s⟩ <;> intro u c <;> simp

@[simp] theorem originEnters_frame (s : State) :
    (originEnters s).number = s.number ∧ (originEnters s).bus = s.bus ∧ (originEnters s).record = s.record ∧
      (originEnters s).control = s.control ∧ (originEnters s).claim = s.claim ∧
      (originEnters s).port = s.port ∧ (originEnters s).pending = s.pending := by
  have h : ∀ {β : Type} (g : State → β), (∀ u r, g (offerRaise u r) = g u) → (∀ u n, g (evaluateLine n u) = g u) →
      g (originEnters s) = g s := fun g hr hl => (foldl_keeps hl _ _).trans (foldl_keeps hr _ s)
  refine ⟨h _ ?_ ?_, h _ ?_ ?_, h _ ?_ ?_, h _ ?_ ?_, h _ ?_ ?_, h _ ?_ ?_, h _ ?_ ?_⟩ <;> intro u x <;> simp

@[simp] theorem selfDeparts_frame (s : State) :
    (selfDeparts s).number = s.number ∧ (selfDeparts s).bus = s.bus ∧ (selfDeparts s).record = none ∧
      (selfDeparts s).agenda = { s.agenda with purposes := [] } ∧ (selfDeparts s).control = s.control ∧
      (selfDeparts s).pending = s.pending := by
  simp [selfDeparts]

/-! ### Leaving a state and entering one (R97) -/

/-- The membership controller as leaving its state makes it. -/
def leftControl (c : Control) : Control :=
  match c.state with
  | .listen => { c with quiet := none, headNoted := false }
  | .departing => { c with wait := none, cause := none }
  | .joining => { c with joinReply := none }
  | .offline | .founding | .syncing | .member | .leaving | .isolated => c

/-- The membership controller as entering a state makes it, with the intervals of the timers that entering starts. -/
def enteredControl (new : StationState) (quiet wait : Nat) (c : Control) : Control :=
  match new with
  | .offline | .isolated =>
    { c with quiet := none, joinReply := none, backoff := none, headNoted := false, wait := none, note := none }
  | .listen => { c with quiet := if c.backoff.isSome then none else some quiet }
  | .founding => { c with foreign := false, note := none }
  | .joining => { c with note := none }
  | .departing => { c with wait := some wait }
  | .syncing | .member | .leaving => c

theorem leaveState_control (s : State) : (leaveState s).control = leftControl s.control := by
  unfold leaveState leftControl
  cases h : s.control.state <;> simp [dropPurposes, h]

theorem leaveState_agenda (s : State) : (leaveState s).agenda = { s.agenda with
    purposes := match s.control.state with
      | .founding => s.agenda.purposes.filter (fun p => p.aim != .found)
      | .joining => s.agenda.purposes.filter (fun p => p.aim != .join)
      | _ => s.agenda.purposes } := by
  unfold leaveState
  cases s.control.state <;> rfl

theorem enterState_control (new : StationState) (s : State) :
    (enterState new s).control = enteredControl new (quietInterval s) (idleInterval s) s.control := by
  cases new <;> simp [enterState, enteredControl, enterOff, enterListen, idleInterval]

@[simp] theorem enterState_frame (new : StationState) (s : State) :
    (enterState new s).number = s.number ∧ (enterState new s).record = s.record ∧
      (enterState new s).claim = s.claim ∧ (enterState new s).port = s.port ∧
      (enterState new s).pending = s.pending := by
  cases new <;> simp [enterState]

theorem changeState_control (new : StationState) (s : State) : (changeState new s).control =
    enteredControl new (quietInterval s) (idleInterval s) { leftControl s.control with state := new } := by
  rw [changeState, enterState_control, markState_control, leaveState_control]
  simp [quietInterval, idleInterval]

@[simp] theorem enteredControl_state (new : StationState) (q w : Nat) (c : Control) :
    (enteredControl new q w c).state = c.state := by cases new <;> rfl

@[simp] theorem changeState_state (new : StationState) (s : State) : (changeState new s).control.state = new := by
  rw [changeState_control, enteredControl_state]

@[simp] theorem changeState_frame (new : StationState) (s : State) :
    (changeState new s).number = s.number ∧ (changeState new s).record = s.record ∧
      (changeState new s).claim = s.claim ∧ (changeState new s).port = { s.port with stateCause := true } ∧
      (changeState new s).pending = s.pending := by
  simp [changeState]

/-- The states on whose entry the bus interface changes are those off the bus and LISTEN. -/
theorem changeState_bus {new : StationState} (s : State)
    (h : new ≠ .offline ∧ new ≠ .isolated ∧ new ≠ .listen) : (changeState new s).bus = s.bus := by
  obtain ⟨h1, h2, h3⟩ := h
  cases new <;> simp_all [changeState, enterState]

theorem changeState_bus_listen (s : State) :
    (changeState .listen s).bus = { s.bus with pointer := 0, learned := false } := by
  simp [changeState, enterState, enterListen]

theorem changeState_bus_off {new : StationState} (s : State) (h : new = .offline ∨ new = .isolated) :
    (changeState new s).bus = (stopObserving s).bus := by
  have : ∀ u : State, u.bus = s.bus → (enterOff u).bus = (stopObserving s).bus := by
    intro u hu
    unfold enterOff stopObserving
    rw [hu]
    cases s.bus.attempt <;> simp
  rcases h with rfl | rfl <;> exact this _ (by simp)

/-- The states on whose entry the origin unit acts are MEMBER and DEPARTING. -/
theorem changeState_origin {new : StationState} (s : State) (h : new ≠ .member ∧ new ≠ .departing) :
    (changeState new s).origin = s.origin := by
  obtain ⟨h1, h2⟩ := h
  cases new <;> simp_all [changeState, enterState]

theorem changeState_origin_departing (s : State) :
    (changeState .departing s).origin = (stopServiceTimers s).origin := by
  simp [changeState, enterState, stopServiceTimers]

theorem changeState_agenda_departing (s : State) :
    (changeState .departing s).agenda = { s.agenda with purposes := [] } := by
  simp [changeState, enterState, leaveState_agenda]

theorem changeState_agenda_listen (s : State) : (changeState .listen s).agenda = (leaveState s).agenda := by
  simp [changeState, enterState]

theorem changeState_agenda_off {new : StationState} (s : State) (h : new = .offline ∨ new = .isolated) :
    (changeState new s).agenda =
      { s.agenda with purposes := [], idle := if s.bus.attempt = none then none else s.agenda.idle } := by
  rcases h with rfl | rfl <;>
    simp [changeState, enterState, enterOff, stopObserving_agenda, leaveState_agenda]

theorem changeState_member (s : State) :
    changeState .member s = updateWant (originEnters (markState .member (leaveState s))) := rfl

theorem changeState_syncing (s : State) :
    changeState .syncing s = updateWant (markState .syncing (leaveState s)) := rfl

theorem changeState_leaving (s : State) :
    changeState .leaving s = updateWant (markState .leaving (leaveState s)) := rfl

@[simp] theorem enterDeparting_frame (c : DepartingCause) (s : State) :
    (enterDeparting c s).number = s.number ∧ (enterDeparting c s).bus = s.bus ∧
      (enterDeparting c s).record = s.record ∧ (enterDeparting c s).agenda = { s.agenda with purposes := [] } ∧
      (enterDeparting c s).claim = s.claim ∧ (enterDeparting c s).port = { s.port with stateCause := true } ∧
      (enterDeparting c s).origin = (stopServiceTimers s).origin ∧
      (enterDeparting c s).pending = s.pending := by
  simp [enterDeparting, changeState_bus, changeState_agenda_departing, changeState_origin_departing]

theorem enterDeparting_control (c : DepartingCause) (s : State) : (enterDeparting c s).control =
    { leftControl s.control with state := .departing, wait := some (idleInterval s), cause := some c } := by
  simp [enterDeparting, changeState_control, enteredControl]

end Sys2Proof.Machine
end


section
/-! The reactions that leave the station state, the copy and the bus interface alone: what they keep of the agenda
(R84, R85). -/

set_option Elab.async false

namespace Sys2Proof.Machine

/-! ### Which purposes go with a station state (R85, R95, R97) -/

/-- Whether a purpose may be held in a station state. -/
def aimFits : StationState → Aim → Bool
  | .syncing, a => a == .leave || a == .beacon
  | .member, a | .leaving, a => a != .join && a != .found && a != .departureNull
  | .founding, a => a == .found
  | .joining, a => a == .join
  | .departing, a => a == .departureNull
  | .listen, _ | .offline, _ | .isolated, _ => false

/-- Every purpose held goes with the station state. -/
def PurposesFit (s : State) : Prop := ∀ p ∈ s.agenda.purposes, aimFits s.control.state p.aim = true

/-- What the state takes in goes with it; of FOUND and JOIN, only the one the state is entered with is added. -/
theorem aimFits_of_takesIn {x : StationState} {a : Aim} (h : takesIn x a = true) (hj : a ≠ .join) (hf : a ≠ .found) :
    aimFits x a = true := by
  cases x <;> simp_all [takesIn, aimFits]

/-- Any purpose added keeps the agenda's order (R84). -/
theorem agendaSound_addPurpose {s : State} (a : Aim) (h : AgendaSound s) : AgendaSound (addPurpose a s) := by
  rcases addPurpose_cases a s with ⟨-, hfree, heq⟩ | ⟨-, heq⟩ <;> rw [heq]
  · obtain ⟨hpair, hbound, hl⟩ := h
    refine ⟨List.pairwise_append.mpr ⟨hpair, List.pairwise_singleton _ _, fun p hp q hq => ?_⟩, fun p hp => ?_, hl⟩
    · obtain rfl := List.mem_singleton.mp hq
      refine ⟨(hbound p hp).1, fun hsame => ?_⟩
      have hclash := (clashes_iff p.aim a).mpr hsame
      rw [hfree p hp] at hclash
      exact absurd hclash (by decide)
    · rcases List.mem_append.mp hp with hp | hp
      · exact ⟨Nat.lt_succ_of_lt (hbound p hp).1, (hbound p hp).2⟩
      · obtain rfl := List.mem_singleton.mp hp
        exact ⟨Nat.lt_succ_self _, hl⟩
  · exact h

/-- A reaction: the host's side, the bus interface, the copy, the membership controller, the sent purpose and the
idle timer stay, and the agenda keeps its order and goes on to fit the station state. -/
structure Reacts (s t : State) : Prop where
  host : SameHostSide s t
  bus : t.bus = s.bus
  record : t.record = s.record
  control : t.control = s.control
  sent : t.agenda.sent = s.agenda.sent
  idle : t.agenda.idle = s.agenda.idle
  fit : PurposesFit s → PurposesFit t
  sound : AgendaSound s → AgendaSound t

namespace Reacts

@[simp] theorem refl (s : State) : Reacts s s := ⟨.refl s, rfl, rfl, rfl, rfl, rfl, id, id⟩

theorem trans {s t u : State} (h : Reacts s t) (k : Reacts t u) : Reacts s u :=
  ⟨h.host.trans k.host, k.bus.trans h.bus, k.record.trans h.record, k.control.trans h.control,
    k.sent.trans h.sent, k.idle.trans h.idle, k.fit ∘ h.fit, k.sound ∘ h.sound⟩

theorem foldl {α : Type} {f : State → α → State} (h : ∀ s a, Reacts s (f s a)) (l : List α) (s : State) :
    Reacts s (l.foldl f s) := by
  induction l generalizing s with
  | nil => exact refl s
  | cons a l ih => exact (h s a).trans (ih (f s a))

variable {s t : State}

/-- An operation that leaves the agenda alone. -/
theorem of_agenda (host : SameHostSide s t) (bus : t.bus = s.bus) (record : t.record = s.record)
    (control : t.control = s.control) (agenda : t.agenda = s.agenda) : Reacts s t where
  host := host
  bus := bus
  record := record
  control := control
  sent := by rw [agenda]
  idle := by rw [agenda]
  fit := by
    unfold PurposesFit
    rw [agenda, control]
    exact id
  sound := by
    unfold AgendaSound
    rw [agenda, host.store]
    exact id

/-! ### The agenda -/

theorem addPurpose (s : State) {a : Aim} (hj : a ≠ .join) (hf : a ≠ .found) : Reacts s (addPurpose a s) where
  host := by simp
  bus := by simp
  record := by simp
  control := by simp
  sent := by rcases addPurpose_cases a s with ⟨-, -, heq⟩ | ⟨-, heq⟩ <;> rw [heq]; rfl
  idle := by rcases addPurpose_cases a s with ⟨-, -, heq⟩ | ⟨-, heq⟩ <;> rw [heq]; rfl
  fit := fun hfit p hp => by
    rcases addPurpose_cases a s with ⟨htake, -, heq⟩ | ⟨-, heq⟩ <;> rw [heq] at hp ⊢
    · rcases List.mem_append.mp hp with hp | hp
      · exact hfit p hp
      · obtain rfl := List.mem_singleton.mp hp
        exact aimFits_of_takesIn htake hj hf
    · exact hfit p hp
  sound := agendaSound_addPurpose a

/-- Removing purposes. -/
theorem filter (s : State) (keep : Purpose → Bool) :
    Reacts s (s.setAgenda { s.agenda with purposes := s.agenda.purposes.filter keep }) where
  host := by simp
  bus := rfl
  record := rfl
  control := rfl
  sent := rfl
  idle := rfl
  fit h p hp := h p (List.mem_of_mem_filter hp)
  sound := fun ⟨hpair, hbound, hl⟩ => ⟨hpair.filter _, fun p hp => hbound p (List.mem_of_mem_filter hp), hl⟩

/-- Changing what a purpose holds besides its aim and its age. -/
theorem map (s : State) (f : Purpose → Purpose) (haim : ∀ p, (f p).aim = p.aim) (hage : ∀ p, (f p).age = p.age)
    (hcount : ∀ p, p.count < s.port.store.l → (f p).count < s.port.store.l) :
    Reacts s (s.setAgenda { s.agenda with purposes := s.agenda.purposes.map f }) where
  host := by simp
  bus := rfl
  record := rfl
  control := rfl
  sent := rfl
  idle := rfl
  fit h p hp := by
    obtain ⟨q, hq, rfl⟩ := List.mem_map.mp hp
    rw [haim]
    exact h q hq
  sound := fun ⟨hpair, hbound, hl⟩ => by
    refine ⟨List.pairwise_map.mpr ?_, fun p hp => ?_, hl⟩
    · simpa only [haim, hage] using hpair
    · obtain ⟨q, hq, rfl⟩ := List.mem_map.mp hp
      exact ⟨by rw [hage]; exact (hbound q hq).1, hcount q (hbound q hq).2⟩

theorem dropPurposes (which : Aim → Bool) (s : State) : Reacts s (dropPurposes which s) := filter s _

theorem emptyAgenda (s : State) : Reacts s (emptyAgenda s) := by
  have h := filter s (fun _ => false)
  rw [List.filter_false] at h
  exact h

theorem dropSent (s : State) : Reacts s (dropSent s) := by
  unfold Machine.dropSent
  split
  · exact refl s
  · exact filter s _

theorem countSent (took : Bool) (s : State) : Reacts s (countSent took s) := by
  unfold Machine.countSent
  split
  · exact refl s
  · dsimp only
    split
    · exact dropSent s
    · refine map s _ (fun p => ?_) (fun p => ?_) (fun p hp => ?_)
      · split
        · unfold countFailure
          split <;> rfl
        · rfl
      · split
        · unfold countFailure
          split <;> rfl
        · rfl
      · split
        · unfold countFailure
          split
          · exact Nat.lt_of_le_of_lt (Nat.zero_le _) hp
          · rename_i h
            exact Nat.not_le.mp h
        · exact hp

theorem updateWant (s : State) : Reacts s (updateWant s) := by
  unfold Machine.updateWant
  split
  · exact addPurpose s (by simp) (by simp)
  · exact dropPurposes _ s

theorem updateDuty (s : State) : Reacts s (updateDuty s) := by
  unfold Machine.updateDuty
  split
  · exact addPurpose s (by simp) (by simp)
  · exact dropPurposes _ s

theorem updateBeacon (a b : Bool) (s : State) : Reacts s (updateBeacon a b s) := by
  unfold Machine.updateBeacon
  split
  · exact refl s
  · exact dropPurposes _ s

/-! ### The queues -/

theorem postFault (k : FaultKind) (a : Option Station) (b : Option Slot) (c : Option Line) (d : Option DepartureCause)
    (s : State) : Reacts s (postFault k a b c d s) := of_agenda (by simp) (by simp) (by simp) (by simp) (by simp)

theorem postCompletions (cs : List Completion) (s : State) : Reacts s (postCompletions cs s) :=
  of_agenda (by simp) (by simp) (by simp) (by simp) (by simp)

theorem postDepartures (ds : List (Station × DepartureCause)) (s : State) : Reacts s (postDepartures ds s) :=
  of_agenda (by simp) (by simp) (by simp) (by simp) (by simp)

theorem postOwnPlace (a b : Bool) (s : State) : Reacts s (postOwnPlace a b s) :=
  of_agenda (by simp) (by simp) (by simp) (by simp) (by simp)

theorem postRetryLimit (p : Option Purpose) (s : State) : Reacts s (postRetryLimit p s) :=
  of_agenda (by simp) (by simp) (by simp) (by simp) (by simp)

theorem postDuplicate (b : Bool) (s : State) : Reacts s (postDuplicate b s) :=
  of_agenda (by simp) (by simp) (by simp) (by simp) (by simp)

/-! ### The origin unit and the claim unit -/

theorem changeLine (n : Line) (f : LineRecord → LineRecord) (s : State) : Reacts s (changeLine n f s) :=
  of_agenda (by simp) (by simp) (by simp) (by simp) (by simp)

theorem changeRaise (id : RaiseId) (f : RaiseRecord → RaiseRecord) (s : State) : Reacts s (changeRaise id f s) :=
  of_agenda (by simp) (by simp) (by simp) (by simp) (by simp)

theorem raiseEnds (id : RaiseId) (c : Completion) (s : State) : Reacts s (raiseEnds id c s) :=
  of_agenda (by simp) (by simp) (by simp) (by simp) (by simp)

theorem lineWants (n : Line) (s : State) : Reacts s (lineWants n s) :=
  (changeLine n _ s).trans (addPurpose _ (by simp) (by simp))

theorem evaluateLine (n : Line) (s : State) : Reacts s (evaluateLine n s) := by
  unfold Machine.evaluateLine
  split
  · exact lineWants n s
  · exact refl s

theorem checkWithdraw (n : Line) (s : State) : Reacts s (checkWithdraw n s) := by
  unfold Machine.checkWithdraw
  dsimp only
  split
  · split
    · exact addPurpose s (by simp) (by simp)
    · exact refl s
  · exact refl s

theorem levelInactive (n : Line) (s : State) : Reacts s (levelInactive n s) := by
  unfold Machine.levelInactive
  split
  · split
    · exact refl s
    · exact (changeLine n _ s).trans (dropPurposes _ _)
  · exact checkWithdraw n s
  all_goals exact refl s

theorem edgeReceived (n : Line) (s : State) : Reacts s (edgeReceived n s) := by
  unfold Machine.edgeReceived
  split
  · split
    · exact lineWants n s
    · exact refl s
  all_goals first | exact changeLine n _ s | exact refl s

theorem lineEvent (n : Line) (level : Bool) (s : State) : Reacts s (lineEvent n level s) := by
  unfold Machine.lineEvent levelActive
  split
  · exact refl s
  · exact refl s
  all_goals
    split
    · exact evaluateLine n s
    · exact evaluateLine n s
    · exact levelInactive n s
    · exact levelInactive n s
    · exact edgeReceived n s
    · exact edgeReceived n s
    · exact refl s
    · exact refl s

theorem inputChanges (n : Line) (level : Bool) (s : State) : Reacts s (inputChanges n level s) := by
  unfold Machine.inputChanges
  split
  · exact refl s
  · have h : Reacts s (s.setOrigin { s.origin with levels := levelsWith s.origin.levels n level }) :=
      of_agenda (by simp) rfl rfl rfl rfl
    exact h.trans (lineEvent n level _)

theorem sourceOffered (x : Source) (h : Handle) (s : State) : Reacts s (sourceOffered x h s) := by
  unfold Machine.sourceOffered
  split
  · split
    · exact (changeLine _ _ s).trans ((dropPurposes _ _).trans (checkWithdraw _ _))
    · exact refl s
  · exact changeRaise _ _ s

theorem sourceClaimed (x : Source) (s : State) : Reacts s (sourceClaimed x s) := by
  unfold Machine.sourceClaimed
  split
  · exact changeLine _ _ s
  · exact changeRaise _ _ s

theorem sourceReturned (x : Source) (s : State) : Reacts s (sourceReturned x s) := by
  cases x
  · exact (changeLine _ _ s).trans (checkWithdraw _ _)
  · exact changeRaise _ _ s

theorem rearmLine (n : Line) (s : State) : Reacts s (rearmLine n s) := by
  unfold Machine.rearmLine
  dsimp only
  split
  · exact (changeLine _ _ s).trans (evaluateLine n _)
  · split
    · exact (changeLine _ _ s).trans (lineWants n _)
    · exact changeLine _ _ s

theorem sourceRetires (x : Source) (s : State) : Reacts s (sourceRetires x s) := by
  cases x
  · exact rearmLine _ s
  · exact raiseEnds _ _ s

theorem sourceWithdrawn (x : Source) (s : State) : Reacts s (sourceWithdrawn x s) := by
  cases x
  · exact (changeLine _ _ s).trans (evaluateLine _ _)
  · exact refl s

theorem sourceDropped (x : Source) (h : Handle) (s : State) : Reacts s (sourceDropped x h s) := by
  cases x
  · exact (changeLine _ _ s).trans (postFault _ _ _ _ _ _)
  · exact raiseEnds _ _ s

theorem originReacts (sent : Option Sent) (s : State) (c : EntryChange) : Reacts s (originReacts sent s c) := by
  unfold Machine.originReacts
  dsimp only
  split
  · split
    · split
      · exact sourceOffered _ _ s
      · exact refl s
    · split
      · exact refl s
      · split
        · exact sourceClaimed _ s
        · exact sourceReturned _ s
        · exact sourceReturned _ s
        · exact sourceRetires _ s
        · exact sourceWithdrawn _ s
        · exact sourceDropped _ _ s
        all_goals exact refl s
  · exact refl s

theorem originReacts_all (sent : Option Sent) (cs : List EntryChange) (s : State) :
    Reacts s (cs.foldl (Machine.originReacts sent) s) := foldl (originReacts sent) cs s

theorem offerRaise (s : State) (r : RaiseRecord) : Reacts s (offerRaise s r) := by
  unfold Machine.offerRaise
  split
  · exact addPurpose s (by simp) (by simp)
  · exact refl s

theorem originEnters (s : State) : Reacts s (originEnters s) :=
  (foldl offerRaise _ s).trans (foldl (fun u n => evaluateLine n u) _ _)

theorem stopServiceTimers (s : State) : Reacts s (stopServiceTimers s) :=
  of_agenda (by simp [Machine.stopServiceTimers]) (by simp) (by simp) (by simp) (by simp)

theorem claimReacts (b : Bool) (r : Record) (cs : List EntryChange) (s : State) : Reacts s (claimReacts b r cs s) :=
  of_agenda (by simp) (by simp) (by simp) (by simp) (by simp)

end Reacts

end Sys2Proof.Machine
end


section
/-! What the membership controller holds goes with the station state, and every step keeps it so (R1, R96, R97). -/

set_option Elab.async false

namespace Sys2Proof.Machine

/-! ### The place in parts -/

/-- A state in which a copy of the group record is held (R1). -/
def StationState.holdsRecord : StationState → Bool
  | .syncing | .member | .leaving | .departing => true
  | .offline | .listen | .founding | .joining | .isolated => false

/-- What the membership controller holds goes with its state (R96, R97). -/
structure Control.Fits (c : Control) : Prop where
  cause : c.cause.isSome ↔ c.state = .departing
  quiet : c.quiet.isSome → c.state = .listen
  joinReply : c.joinReply.isSome → c.state = .joining
  wait : c.wait.isSome → c.state = .departing
  note : c.note.isSome → c.state = .listen
  listen : c.state = .listen → (c.quiet.isSome ↔ c.backoff = none)
  off : c.state = .offline ∨ c.state = .isolated → c.backoff = none

/-- The parts of `PlaceSound`. -/
structure Placed (s : State) : Prop where
  record : s.record.isSome = s.control.state.holdsRecord
  control : s.control.Fits
  purposes : PurposesFit s
  locked : s.control.state ≠ .offline → s.port.store.locked = true

theorem holdsRecord_iff (s : State) :
    s.control.state.holdsRecord = true ↔ s.judging ∨ s.control.state = .departing := by
  unfold State.judging
  cases s.control.state <;> simp [StationState.holdsRecord]

theorem aimFits_iff (x : StationState) (a : Aim) : aimFits x a = true ↔
    (x = .syncing → a = .leave ∨ a = .beacon) ∧
    (x = .member ∨ x = .leaving → a ≠ .join ∧ a ≠ .found ∧ a ≠ .departureNull) ∧
    (x = .founding → a = .found) ∧ (x = .joining → a = .join) ∧ (x = .departing → a = .departureNull) ∧
    x ≠ .listen ∧ ¬(x = .offline ∨ x = .isolated) := by
  cases x <;> simp [aimFits, and_assoc]

theorem purposesFit_eq_nil {s : State} (h : PurposesFit s) (hs : ∀ a, aimFits s.control.state a = false) :
    s.agenda.purposes = [] := by
  refine List.eq_nil_iff_forall_not_mem.mpr fun p hp => ?_
  have := h p hp
  rw [hs] at this
  exact absurd this (by decide)

theorem placeSound_iff {s : State} : PlaceSound s ↔ Placed s := by
  constructor
  · rintro ⟨hrecord, hcause, hquiet, hjoin, hwait, hnote, hlisten, hoff, hpurposes, hlocked⟩
    refine ⟨?_, ⟨hcause, hquiet, hjoin, hwait, hnote, hlisten, fun h => (hoff h).2⟩,
      fun p hp => (aimFits_iff _ _).mpr (hpurposes p hp), hlocked⟩
    rw [Bool.eq_iff_iff, holdsRecord_iff]
    exact hrecord
  · rintro ⟨hrecord, ⟨hcause, hquiet, hjoin, hwait, hnote, hlisten, hoff⟩, hpurposes, hlocked⟩
    refine ⟨?_, hcause, hquiet, hjoin, hwait, hnote, hlisten, fun h => ⟨?_, hoff h⟩,
      fun p hp => (aimFits_iff _ _).mp (hpurposes p hp), hlocked⟩
    · rw [← holdsRecord_iff, hrecord]
    · refine purposesFit_eq_nil hpurposes fun a => ?_
      rcases h with h | h <;> rw [h] <;> rfl

/-! ### Changes of station state -/

/-- Leaving a state stops its timers and clears its cause. -/
theorem leftControl_clear {c : Control} (h : c.Fits) :
    (leftControl c).cause = none ∧ (leftControl c).quiet = none ∧ (leftControl c).joinReply = none ∧
      (leftControl c).wait = none ∧ (leftControl c).note = c.note := by
  obtain ⟨hcause, hquiet, hjoin, hwait, -, -, -⟩ := h
  obtain ⟨state, cause, quiet, joinReply, backoff, headNoted, wait, foreign, note⟩ := c
  cases state <;> simp_all [leftControl]

/-- Leaving a state and entering another keeps what the controller holds in step, but for the cause, which entering
DEPARTING takes from its caller. An admission note is kept in LISTEN alone. -/
theorem fits_entered {c : Control} (h : c.Fits) {new : StationState} (q w : Nat) (hnew : new ≠ .departing)
    (hlisten : c.state = .listen → new ≠ .syncing ∧ new ≠ .member ∧ new ≠ .leaving) :
    (enteredControl new q w { leftControl c with state := new }).Fits := by
  obtain ⟨hcause, hquiet, hjoin, hwait, hnote⟩ := leftControl_clear h
  have hnone : new = .syncing ∨ new = .member ∨ new = .leaving → c.note = none := fun hin =>
    Option.not_isSome_iff_eq_none.mp fun hsome => by
      obtain ⟨h1, h2, h3⟩ := hlisten (h.note hsome)
      rcases hin with h | h | h <;> contradiction
  cases new <;> constructor <;> simp_all [enteredControl]

theorem fits_departing {c : Control} (h : c.Fits) (w : Nat) (cause : DepartingCause) (hlisten : c.state ≠ .listen) :
    ({ leftControl c with state := .departing, wait := some w, cause := some cause } : Control).Fits := by
  obtain ⟨hcause, hquiet, hjoin, hwait, hnote⟩ := leftControl_clear h
  have hnone : c.note = none := Option.not_isSome_iff_eq_none.mp fun hsome => hlisten (h.note hsome)
  constructor <;> simp_all

/-- Going to LISTEN with the backoff timer started keeps what the controller holds in step. -/
theorem fits_listenWithBackoff {c : Control} (h : c.Fits) (q w : Nat) (b : Nat × FollowOn) :
    (enteredControl .listen q w
      { leftControl { c with backoff := some b, headNoted := false } with state := .listen }).Fits := by
  obtain ⟨hcause, hquiet, hjoin, hwait, -, -, -⟩ := h
  obtain ⟨state, cause, quiet, joinReply, backoff, headNoted, wait, foreign, note⟩ := c
  cases state <;> constructor <;> simp_all [leftControl, enteredControl]

theorem purposesFit_addPurpose {s : State} {a : Aim} (h : PurposesFit s) (ha : aimFits s.control.state a = true) :
    PurposesFit (addPurpose a s) := by
  intro p hp
  rcases addPurpose_cases a s with ⟨-, -, heq⟩ | ⟨-, heq⟩ <;> rw [heq] at hp ⊢
  · rcases List.mem_append.mp hp with hp | hp
    · exact h p hp
    · obtain rfl := List.mem_singleton.mp hp
      exact ha
  · exact h p hp

/-- The purposes that leaving a state leaves, where they go with the state entered, do so after the entry. -/
theorem purposesFit_changeState {s : State} {new : StationState}
    (h : ∀ p ∈ (leaveState s).agenda.purposes, aimFits new p.aim = true) : PurposesFit (changeState new s) := by
  have hu : PurposesFit (markState new (leaveState s)) := by simpa [PurposesFit] using h
  cases new
  case offline | isolated =>
    intro p hp
    simp [changeState_agenda_off] at hp
  case departing =>
    intro p hp
    simp [changeState_agenda_departing] at hp
  case listen =>
    intro p hp
    rw [changeState_agenda_listen] at hp
    rw [changeState_state]
    exact h p hp
  case founding | joining => exact purposesFit_addPurpose (by simpa [PurposesFit] using h) (by simp [aimFits])
  case member =>
    rw [changeState_member]
    exact ((Reacts.originEnters _).trans (Reacts.updateWant _)).fit hu
  case syncing =>
    rw [changeState_syncing]
    exact (Reacts.updateWant _).fit hu
  case leaving =>
    rw [changeState_leaving]
    exact (Reacts.updateWant _).fit hu

/-- No purpose outlives FOUNDING or JOINING, and none is held in LISTEN or off the bus. -/
theorem leaveState_purposes_eq_nil {s : State} (h : PurposesFit s)
    (hs : s.control.state ≠ .syncing ∧ s.control.state ≠ .member ∧ s.control.state ≠ .leaving ∧
      s.control.state ≠ .departing) : (leaveState s).agenda.purposes = [] := by
  refine List.eq_nil_iff_forall_not_mem.mpr fun p hp => ?_
  obtain ⟨h1, h2, h3, h4⟩ := hs
  rw [leaveState_agenda] at hp
  have hfit : ∀ q ∈ s.agenda.purposes, aimFits s.control.state q.aim = true := h
  cases hstate : s.control.state <;> rw [hstate] at hp hfit <;> simp_all [aimFits]
  all_goals obtain ⟨hp, hne⟩ := hp; exact hne (hfit p hp)

namespace Placed

variable {s t : State}

/-- What bears on the place stays. -/
theorem of_same (h : Placed s) (hcontrol : t.control = s.control) (hrecord : t.record.isSome = s.record.isSome)
    (hfit : PurposesFit s → PurposesFit t) (hlocked : t.port.store.locked = s.port.store.locked) : Placed t where
  record := by rw [hrecord, hcontrol, h.record]
  control := hcontrol ▸ h.control
  purposes := hfit h.purposes
  locked := by rw [hcontrol, hlocked]; exact h.locked

theorem of_reacts (h : Placed s) (r : Reacts s t) : Placed t :=
  h.of_same r.control (by rw [r.record]) r.fit (by rw [r.host.store])

/-- Only the bus interface, the origin unit, the claim unit, and of the agenda and the port what does not bear on
the place, have changed. -/
theorem of_blocks (h : Placed s) (hcontrol : t.control = s.control) (hrecord : t.record = s.record)
    (hpurposes : t.agenda.purposes = s.agenda.purposes) (hstore : t.port.store = s.port.store) : Placed t :=
  h.of_same hcontrol (by rw [hrecord]) (by unfold PurposesFit; rw [hpurposes, hcontrol]; exact id) (by rw [hstore])

/-- The membership controller changes within its state. -/
theorem of_control (h : Placed s) {c : Control} (hc : c.Fits) (hstate : c.state = s.control.state) :
    Placed (s.setControl c) where
  record := by simpa [hstate] using h.record
  control := hc
  purposes := by simpa [PurposesFit, hstate] using h.purposes
  locked := by simpa [hstate] using h.locked

theorem changeState (hc : s.control.Fits) {new : StationState} (hnew : new ≠ .departing)
    (hlisten : s.control.state = .listen → new ≠ .syncing ∧ new ≠ .member ∧ new ≠ .leaving)
    (hrecord : s.record.isSome = new.holdsRecord)
    (hpurposes : ∀ p ∈ (leaveState s).agenda.purposes, aimFits new p.aim = true)
    (hlocked : new ≠ .offline → s.port.store.locked = true) : Placed (changeState new s) where
  record := by simpa using hrecord
  control := by
    rw [changeState_control]
    exact fits_entered hc _ _ hnew hlisten
  purposes := purposesFit_changeState hpurposes
  locked := by simpa using hlocked

/-- Entering DEPARTING from a state in which the station judges. -/
theorem enterDeparting (h : Placed s) (hj : s.control.state.judges = true) (cause : DepartingCause) :
    Placed (enterDeparting cause s) where
  record := by
    have hstate : (Machine.enterDeparting cause s).control.state = .departing := by rw [enterDeparting_control]
    rw [hstate]
    refine (congrArg Option.isSome (by simp)).trans (h.record.trans ?_)
    cases hs : s.control.state <;> simp_all [StationState.judges, StationState.holdsRecord]
  control := by
    rw [enterDeparting_control]
    exact fits_departing h.control _ _ (fun hl => by rw [hl] at hj; exact absurd hj (by decide))
  purposes := by
    intro p hp
    simp at hp
  locked := by
    intro _
    have hl : s.control.state ≠ .offline := fun ho => by rw [ho] at hj; exact absurd hj (by decide)
    simpa using h.locked hl

/-- Going to LISTEN with the backoff timer started, the copy and the purposes gone. -/
theorem listenWithBackoff (hc : s.control.Fits) (hrecord : s.record = none)
    (hpurposes : (leaveState s).agenda.purposes = []) (hlocked : s.port.store.locked = true) :
    Placed (listenWithBackoff s) where
  record := by simp [Machine.listenWithBackoff, hrecord, StationState.holdsRecord]
  control := by
    rw [Machine.listenWithBackoff, changeState_control]
    exact fits_listenWithBackoff hc _ _ _
  purposes := by
    refine purposesFit_changeState fun p hp => ?_
    have heq : (leaveState (startBackoff .listen s)).agenda = (leaveState s).agenda := by
      rw [leaveState_agenda, leaveState_agenda]
      rfl
    rw [heq, hpurposes] at hp
    exact absurd hp List.not_mem_nil
  locked := by
    intro _
    simpa [Machine.listenWithBackoff] using hlocked

theorem leaveEnds (hc : s.control.Fits) (hrecord : s.record = none) : Placed (leaveEnds s) where
  record := by simp [Machine.leaveEnds, hrecord, StationState.holdsRecord]
  control := by
    rw [Machine.leaveEnds, changeState_control]
    exact fits_entered (by simpa using hc) _ _ (by decide) (fun _ => by decide)
  purposes := by
    intro p hp
    simp [Machine.leaveEnds, changeState_agenda_off] at hp
  locked := by simp [Machine.leaveEnds]

end Placed

end Sys2Proof.Machine
end


section
/-! Every command keeps the station's place (R1, R96, R97). -/

set_option Elab.async false

namespace Sys2Proof.Machine

/-! ### More that stays -/

@[simp] theorem setItem_frame (i x v : Nat) (s : State) :
    (setItem i x v s).number = s.number ∧ (setItem i x v s).bus = s.bus ∧ (setItem i x v s).record = s.record ∧
      (setItem i x v s).agenda = s.agenda ∧ (setItem i x v s).control = s.control ∧
      (setItem i x v s).pending = s.pending := by
  unfold setItem
  split <;> simp [setLine, setFilter]

theorem stateHolds_of_judges {x : StationState} (h : x.judges = true) : x.holdsRecord = true := by
  cases x <;> simp_all [StationState.judges, StationState.holdsRecord]

theorem fits_cause {c : Control} (h : c.Fits) (hs : c.state = .departing) (x : DepartingCause) :
    ({ c with cause := some x } : Control).Fits :=
  ⟨by simp [hs], h.quiet, h.joinReply, h.wait, h.note, h.listen, h.off⟩

theorem fits_note_none {c : Control} (h : c.Fits) : ({ c with note := none } : Control).Fits :=
  ⟨h.cause, h.quiet, h.joinReply, h.wait, by simp, h.listen, h.off⟩

namespace Placed

variable {s t : State}

/-- Outside the states that hold a copy there is none. -/
theorem record_none (h : Placed s) (hs : s.control.state.holdsRecord = false) : s.record = none := by
  rw [← Option.not_isSome_iff_eq_none, h.record, hs]
  decide

theorem locked_of_ne (h : Placed s) {x : StationState} (hs : s.control.state = x) (hx : x ≠ .offline) :
    s.port.store.locked = true := h.locked (by rw [hs]; exact hx)

/-- Going back to LISTEN from a state without a copy. -/
theorem listen_of_no_record (h : Placed s) (hs : s.control.state.holdsRecord = false)
    (hlocked : s.port.store.locked = true) : Placed (Machine.changeState .listen s) := by
  refine changeState h.control (by decide) (fun _ => by decide) (by rw [h.record_none hs]; rfl) ?_ (fun _ => hlocked)
  rw [leaveState_purposes_eq_nil h.purposes]
  · simp
  · cases hstate : s.control.state <;> simp_all [StationState.holdsRecord]

/-! ### The host's commands -/

theorem takeCommand (h : Placed s) (code : Word32) : Placed (takeCommand code s) := h.of_blocks rfl rfl rfl rfl

theorem answerHost (h : Placed s) (a b c d : Word32) : Placed (answerHost a b c d s) := h.of_blocks rfl rfl rfl rfl

theorem answerCode (h : Placed s) (a : Word32) : Placed (answerCode a s) := h.of_blocks rfl rfl rfl rfl

theorem updateRequest (h : Placed s) : Placed (updateRequest s) := h.of_blocks rfl rfl rfl rfl

theorem reserve (h : Placed s) : Placed (reserve s) := h.of_blocks rfl rfl rfl rfl

theorem commandSet (h : Placed s) : Placed (commandSet s) := by
  unfold Machine.commandSet
  split
  · exact h.answerCode _
  · split
    · exact h.answerCode _
    · rename_i hset
      push Not at hset
      refine answerCode ⟨?_, ?_, ?_, ?_⟩ _
      · simpa using h.record
      · simpa using h.control
      · simpa [PurposesFit] using h.purposes
      · simp [hset.1]

theorem commandStart (h : Placed s) : Placed (commandStart s) := by
  unfold Machine.commandStart
  split
  · exact h.answerCode _
  · rename_i hoff
    push Not at hoff
    split
    · exact h.answerCode _
    · refine answerCode (listen_of_no_record ⟨?_, ?_, ?_, ?_⟩ ?_ ?_) _
      · simpa using h.record
      · simpa using h.control
      · simpa [PurposesFit] using h.purposes
      · simp [setStore, startObserving]
      · simp [hoff, StationState.holdsRecord]
      · simp [setStore, startObserving]

theorem restartFrom (h : Placed s) : Placed (restartFrom s) := by
  unfold Machine.restartFrom
  cases hstate : s.control.state
  case offline => exact h
  case member | syncing => exact h.enterDeparting (by rw [hstate]; rfl) _
  case leaving =>
    exact (h.of_reacts (.postCompletions _ s)).enterDeparting (by simp [hstate, StationState.judges]) _
  case departing =>
    have hkeep : Placed (if s.control.cause = some .leave then Machine.postCompletions [.leaveAbandoned] s else s) := by
      split
      · exact h.of_reacts (.postCompletions _ s)
      · exact h
    have hcontrol : (if s.control.cause = some .leave then Machine.postCompletions [.leaveAbandoned] s else s).control =
        s.control := by split <;> simp
    refine hkeep.of_control (fits_cause hkeep.control ?_ _) rfl
    rw [hcontrol, hstate]
  case isolated =>
    refine listenWithBackoff (fits_note_none h.control) (h.record_none (by rw [hstate]; rfl)) ?_
      (h.locked_of_ne hstate (by decide))
    exact leaveState_purposes_eq_nil (s := startObserving (s.setControl { s.control with note := none })) h.purposes
      (by simp [hstate])
  case listen | founding | joining =>
    refine listenWithBackoff (fits_note_none h.control) (h.record_none (by rw [hstate]; rfl)) ?_
      (h.locked_of_ne hstate (by decide))
    exact leaveState_purposes_eq_nil (s := s.setControl { s.control with note := none }) h.purposes (by simp [hstate])

theorem commandRestart (h : Placed s) : Placed (commandRestart s) := by
  unfold Machine.commandRestart
  split
  · exact h.answerCode _
  · exact h.restartFrom.updateRequest.answerCode _

theorem leaveFrom (h : Placed s) : Placed (leaveFrom s) := by
  unfold Machine.leaveFrom
  cases hstate : s.control.state
  case offline | leaving => exact h
  case departing => exact h.of_control (fits_cause h.control hstate _) rfl
  case listen | founding | joining | isolated =>
    exact leaveEnds h.control (h.record_none (by rw [hstate]; rfl))
  case member | syncing =>
    refine (changeState h.control (by decide) (by simp [hstate]) ?_ (fun p hp => ?_)
      (fun _ => h.locked_of_ne hstate (by decide))).of_reacts (.addPurpose _ (by decide) (by decide))
    · rw [h.record, hstate]
      rfl
    · have hfit := h.purposes p (by simpa [leaveState_agenda, hstate] using hp)
      rw [hstate] at hfit
      cases hp : p.aim <;> simp_all [aimFits]

theorem commandLeave (h : Placed s) : Placed (commandLeave s) := by
  unfold Machine.commandLeave
  split
  · exact h.answerCode _
  · split
    · exact h.answerCode _
    · exact h.reserve.leaveFrom.updateRequest.answerCode _

theorem commandPause (h : Placed s) (paused : Bool) : Placed (commandPause paused s) := by
  have hset : Placed (s.setClaim { s.claim with paused := paused }) := h.of_blocks rfl rfl rfl rfl
  exact (hset.of_reacts (.updateWant _)).updateRequest.answerCode _

theorem commandReadGrant (h : Placed s) : Placed (commandReadGrant s) := by
  unfold Machine.commandReadGrant
  split
  · exact h.answerCode _
  · split
    · exact h.answerCode _
    · exact h.of_blocks rfl rfl rfl rfl

theorem commandFinish (h : Placed s) : Placed (commandFinish s) := by
  unfold Machine.commandFinish
  split
  · exact h.answerCode _
  · split
    · exact h.answerCode _
    · split
      · refine (of_reacts ?_ (.addPurpose _ (by simp) (by simp))).updateRequest.answerCode _
        exact h.of_blocks rfl rfl rfl rfl
      · exact h.answerCode _

theorem raiseAccepted (h : Placed s) (id : RaiseId) (a : RaiseArgs) : Placed (raiseAccepted id a s) := by
  have hset : Placed (raiseHeld id a s) := h.of_blocks rfl rfl rfl rfl
  unfold Machine.raiseAccepted
  dsimp only
  split
  · exact hset.of_reacts (.addPurpose _ (by simp) (by simp))
  · exact hset

theorem commandRaise (h : Placed s) : Placed (commandRaise s) := by
  unfold Machine.commandRaise
  dsimp only
  split
  · exact h.answerCode _
  · split
    · exact h.answerCode _
    · split
      · exact h.answerCode _
      · exact (h.raiseAccepted _ _).updateRequest.answerHost _ _ _ _

theorem commandEnableLine (h : Placed s) : Placed (commandEnableLine s) := by
  unfold Machine.commandEnableLine
  split
  · exact h.answerCode _
  · split
    · exact (h.of_reacts ((Reacts.changeLine _ _ s).trans (.evaluateLine _ _))).updateRequest.answerCode _
    · exact h.answerCode _

theorem commandReadCompletion (h : Placed s) : Placed (commandReadCompletion s) := by
  unfold Machine.commandReadCompletion
  split
  · exact h.answerCode _
  · exact h.of_blocks rfl rfl rfl rfl

theorem commandReadFault (h : Placed s) : Placed (commandReadFault s) := by
  unfold Machine.commandReadFault
  split
  · exact h.answerCode _
  · exact h.of_blocks rfl rfl rfl rfl

theorem commandInspect (h : Placed s) : Placed (commandInspect s) := by
  unfold Machine.commandInspect
  split
  · exact h.answerCode _
  · split
    · exact h.answerHost _ _ _ _
    · exact h.answerCode _

theorem commandStatus (h : Placed s) : Placed (commandStatus s) := h.of_blocks rfl rfl rfl rfl

theorem writeCommand (h : Placed s) (code : Word32) : Placed (writeCommand code s) := by
  have h' := h.takeCommand code
  unfold Machine.writeCommand
  dsimp only
  split
  · exact h'.commandSet
  · exact h'.commandStart
  · exact h'.commandRestart
  · exact h'.commandLeave
  · exact h'.commandPause _
  · exact h'.commandPause _
  · exact h'.commandReadGrant
  · exact h'.commandFinish
  · exact h'.commandRaise
  · exact h'.commandEnableLine
  · exact h'.commandReadCompletion
  · exact h'.commandReadFault
  · exact h'.commandInspect
  · exact h'.commandStatus
  · exact h'.answerCode _

theorem writeWindow (h : Placed s) (loc : Fin 16) (v : Word32) : Placed (writeWindow loc v s) := by
  unfold Machine.writeWindow
  split
  · exact h.writeCommand v
  · exact h.of_blocks rfl rfl rfl rfl
  · exact h.of_blocks rfl rfl rfl rfl
  · exact h.of_blocks rfl rfl rfl rfl
  · exact h.of_blocks rfl rfl rfl rfl
  · exact h.of_blocks rfl rfl rfl rfl
  · exact h

/-! ### The bus -/

theorem agendaGrants (h : Placed s) : Placed (agendaGrants s) := by
  have hfilter := h.of_reacts (.filter s (fun p => !lapses s p))
  have hsent : Placed (s.setAgenda { s.agenda with
      purposes := s.agenda.purposes.filter (fun p => !lapses s p), sent := grantSent s }) :=
    hfilter.of_blocks rfl rfl rfl rfl
  unfold Machine.agendaGrants
  dsimp only
  split
  · exact hsent.of_reacts (.updateWant _)
  · exact hsent

theorem toJoining (h : Placed s) (hs : s.control.state = .founding ∨ s.control.state = .listen) :
    Placed (Machine.changeState .joining s) := by
  have hno : s.control.state.holdsRecord = false := by rcases hs with hs | hs <;> rw [hs] <;> rfl
  refine changeState h.control (by decide) (fun _ => by decide) (by rw [h.record_none hno]; rfl) ?_ (fun _ => ?_)
  · rw [leaveState_purposes_eq_nil h.purposes (by rcases hs with hs | hs <;> simp [hs])]
    simp
  · exact h.locked (by rcases hs with hs | hs <;> simp [hs])

theorem foundReplaced (h : Placed s) : Placed (foundReplaced s) := by
  unfold Machine.foundReplaced
  split
  · rename_i hs
    exact h.toJoining (.inl hs.1)
  · exact h

theorem arbitrationCloses (h : Placed s) (lines : Sampling) : Placed (arbitrationCloses lines s) := by
  unfold Machine.arbitrationCloses
  dsimp only
  split
  · exact h.of_blocks rfl rfl rfl rfl
  · split
    · exact (h.foundReplaced.agendaGrants).of_blocks rfl rfl rfl rfl
    · exact h.of_blocks rfl rfl rfl rfl

end Placed

end Sys2Proof.Machine
end


section
/-! The end of an attempt and the timers keep the station's place, and so every step does (R1, R96, R97). -/

set_option Elab.async false

namespace Sys2Proof.Machine

/-! ### The stages of a judgement (R61) -/

/-- The copy judged and the other stations' departures posted. -/
def judgementPosted (j : Judgement) (s : State) : State := postDepartures j.departures (s.setRecord (some j.record))

/-- The sent purpose that the judgement brings to L. -/
def judgementSpent (x : Seen) (j : Judgement) (s : State) : Option Purpose :=
  if x.isSender && !j.took then exhausted s else none

/-- The reactions of a station that stays in the group, before its own change of state: faults about its place,
the count of the attempt, the claim unit, the origin unit, RETRY_LIMIT and the BEACON. -/
def judgementReacted (x : Seen) (j : Judgement) (lost : Bool) (s : State) : State :=
  let s₂ := postOwnPlace j.diverged lost (judgementPosted j s)
  let s₃ := if x.isSender then countSent j.took s₂ else s₂
  let s₄ := claimReacts x.isSender j.record j.changes s₃
  let s₅ := j.changes.foldl (originReacts (if x.isSender then s.agenda.sent else none)) s₄
  updateBeacon x.isSender j.took (postRetryLimit (judgementSpent x j s) s₅)

theorem memberJudges_of_own {a : Attempt} {r : Record} {s : State} {cause : DepartureCause}
    (h : (judge s.number (seenOf s.number a) r).own = some cause) :
    memberJudges a r s = ownDeparture cause (judgementPosted (judge s.number (seenOf s.number a) r) s) := by
  unfold memberJudges
  dsimp only
  rw [h]
  rfl

theorem memberJudges_of_stays {a : Attempt} {r : Record} {s : State}
    (h : (judge s.number (seenOf s.number a) r).own = none) :
    memberJudges a r s =
      let x := seenOf s.number a
      let j := judge s.number x r
      let lost := snapshotLost s r j (closesSnapshot s r x j)
      updateWant (updateDuty (settleState j.diverged lost ((judgementSpent x j s).any (fun p => p.aim == .leave))
        (closesSnapshot s r x j) (judgementReacted x j lost s))) := by
  unfold memberJudges
  dsimp only
  rw [h]
  rfl

theorem judgementReacted_reacts (x : Seen) (j : Judgement) (lost : Bool) (s : State) :
    Reacts (s.setRecord (some j.record)) (judgementReacted x j lost s) := by
  have hcount : ∀ u, Reacts u (if x.isSender then countSent j.took u else u) := by
    intro u
    split
    · exact .countSent _ u
    · exact .refl u
  exact (Reacts.postDepartures _ _).trans ((Reacts.postOwnPlace _ _ _).trans ((hcount _).trans
    ((Reacts.claimReacts _ _ _ _).trans ((Reacts.originReacts_all _ _ _).trans
      ((Reacts.postRetryLimit _ _).trans (.updateBeacon _ _ _))))))

/-! ### An own FOUND and an own JOIN (R51, R52) -/

/-- FOUNDING with the foreign-attempt flag as the attempt leaves it (R100). -/
def foundingMarked (a : Attempt) (s : State) : State :=
  if a.driven.isNone || a.readback == some false then s.setControl { s.control with foreign := true } else s

theorem foundingMarked_eq (a : Attempt) (s : State) : foundingMarked a s = s.setControl { s.control with
    foreign := s.control.foreign || a.driven.isNone || a.readback == some false } := by
  unfold foundingMarked
  rw [Bool.or_assoc]
  split
  · rename_i h
    rw [h, Bool.or_true]
  · rename_i h
    rw [eq_false_of_ne_true h, Bool.or_false]
    rfl

theorem foundingEnds_found {a : Attempt} {f : Frame} {p : Params} (hd : a.driven = some f) (hb : f.body = .found p)
    (s : State) : foundingEnds a s =
      if foundTaken s.number (windowFields a.responses) then
        changeState .member ((foundingMarked a s).setRecord (some (foundedRecord s.number p)))
      else if (exhausted (foundingMarked a s)).isSome then
        postFault .foundRefused none none none none (changeState .listen (countSent false (foundingMarked a s)))
      else countSent false (foundingMarked a s) := by
  obtain ⟨sender, seq, members, body⟩ := f
  obtain rfl : body = .found p := hb
  simp only [foundingEnds, foundingMarked, hd]

theorem foundingEnds_other {a : Attempt} (h : ∀ f ∈ a.driven, ∀ p, f.body ≠ .found p) (s : State) :
    foundingEnds a s = foundingMarked a s := by
  unfold foundingEnds
  dsimp only
  split
  · rename_i hd
    exact absurd rfl (h _ hd _)
  · rfl

theorem joiningEnds_join {a : Attempt} {f : Frame} {p : Params} (hd : a.driven = some f) (hb : f.body = .join p)
    (s : State) : joiningEnds a s =
      if joinTaken s.number (windowFields a.responses) then
        (dropPurposes (fun x => x == .join) s).setControl
          { s.control with joinReply := some (joinReplyInterval s) }
      else if (exhausted s).isSome then joinTimedOut (countSent false s) else countSent false s := by
  obtain ⟨sender, seq, members, body⟩ := f
  obtain rfl : body = .join p := hb
  simp only [joiningEnds, hd]
  rfl

/-- What a JOINING station makes of an attempt that is not its own JOIN: only a REPLY that names it, taken, does
anything (R105). -/
theorem joiningEnds_other {a : Attempt} (h : ∀ f ∈ a.driven, ∀ p, f.body ≠ .join p) (s : State) :
    joiningEnds a s = s ∨ ∃ f v count m p, a.driven = none ∧ goodFrame a = some f ∧
      f.body = .reply v s.number count m p ∧ replyTaken f v (windowFields a.responses) = true ∧
      joiningEnds a s = replyHeard f v count p s := by
  unfold joiningEnds
  split
  · rename_i hd
    exact absurd rfl (h _ hd _)
  · exact .inl rfl
  · rename_i hd
    split
    · rename_i f hf
      split
      · rename_i v n count m p hb
        split
        · rename_i hn
          exact .inr ⟨f, v, count, m, p, hd, hf, by rw [hb, hn.1], hn.2, rfl⟩
        · exact .inl rfl
      · exact .inl rfl
    · exact .inl rfl

/-- A judging state other than FOUNDING and JOINING is left with the purposes it held. -/
theorem leaveState_purposes_of_judges {s : State} (h : s.control.state.judges = true) :
    (leaveState s).agenda.purposes = s.agenda.purposes := by
  rw [leaveState_agenda]
  cases hs : s.control.state <;> simp_all [StationState.judges]

theorem leaveState_purposes_nil {s : State} (h : s.agenda.purposes = []) : (leaveState s).agenda.purposes = [] := by
  rw [leaveState_agenda]
  cases s.control.state <;> simp [h]

namespace Placed

variable {s t : State}

/-! ### A station's own departure -/

theorem selfDeparts_leaveEnds (h : Placed s) : Placed (Machine.leaveEnds (selfDeparts s)) :=
  leaveEnds (by simpa using h.control) (by simp)

theorem selfDeparts_listen (h : Placed s) (hstate : s.control.state ≠ .offline) :
    Placed (Machine.listenWithBackoff (selfDeparts s)) := by
  refine listenWithBackoff (by simpa using h.control) (by simp) (leaveState_purposes_nil (by simp)) ?_
  rw [((SameHostSide.selfDeparts (s := s)).mpr (.refl s)).store]
  exact h.locked hstate

theorem ownDeparture (h : Placed s) (hj : s.control.state.judges = true) (cause : DepartureCause) :
    Placed (ownDeparture cause s) := by
  have hp : Placed (postFault .evicted (some s.number) none none none s) := h.of_reacts (.postFault _ _ _ _ _ s)
  have hne : s.control.state ≠ .offline := fun ho => by rw [ho] at hj; exact absurd hj (by decide)
  unfold Machine.ownDeparture
  split
  · cases cause
    · exact h.selfDeparts_leaveEnds
    all_goals exact hp.selfDeparts_leaveEnds
  · exact hp.selfDeparts_listen (by simpa using hne)

/-! ### The judgement -/

theorem settleState (h : Placed s) (hj : s.control.state.judges = true) (a b c d : Bool) :
    Placed (settleState a b c d s) := by
  unfold Machine.settleState
  dsimp only
  split
  · exact h.enterDeparting hj _
  · split
    · exact h.enterDeparting hj _
    · split
      · exact h.enterDeparting hj _
      · split
        · rename_i hclosed
          have hs : s.control.state = .syncing := by simpa using (Bool.and_eq_true_iff.mp hclosed).2
          refine changeState h.control (by decide) (by simp [hs]) ?_ (fun p hp => ?_)
            (fun _ => h.locked_of_ne hs (by decide))
          · rw [h.record, hs]
            rfl
          · rw [leaveState_purposes_of_judges hj] at hp
            have hfit := h.purposes p hp
            rw [hs] at hfit
            cases hp : p.aim <;> simp_all [aimFits]
        · exact h

theorem memberJudges (h : Placed s) (hj : s.control.state.judges = true) (a : Attempt) (r : Record) :
    Placed (memberJudges a r s) := by
  have hrec : ∀ j : Judgement, Placed (s.setRecord (some j.record)) := fun j =>
    ⟨(stateHolds_of_judges hj).symm, h.control, h.purposes, h.locked⟩
  cases hown : (judge s.number (seenOf s.number a) r).own with
  | some cause =>
    rw [memberJudges_of_own hown]
    exact ((hrec _).of_reacts (.postDepartures _ _)).ownDeparture (by simpa using hj) _
  | none =>
    rw [memberJudges_of_stays hown]
    have hreacts := judgementReacted_reacts (seenOf s.number a) (judge s.number (seenOf s.number a) r)
      (snapshotLost s r (judge s.number (seenOf s.number a) r)
        (closesSnapshot s r (seenOf s.number a) (judge s.number (seenOf s.number a) r))) s
    refine of_reacts ?_ ((Reacts.updateDuty _).trans (.updateWant _))
    refine settleState ((hrec _).of_reacts hreacts) ?_ _ _ _ _
    rw [hreacts.control]
    exact hj

/-! ### The other states -/

theorem departingEnds (h : Placed s) (hs : s.control.state = .departing) (a : Attempt) :
    Placed (departingEnds a s) := by
  unfold Machine.departingEnds
  split
  · split
    · exact h.selfDeparts_leaveEnds
    all_goals exact h.selfDeparts_listen (by simp [hs])
  · dsimp only
    have hdrop : Placed (if a.driven.isSome then dropSent s else s) := by
      split
      · exact h.of_reacts (.dropSent s)
      · exact h
    have hcontrol : (if a.driven.isSome then dropSent s else s).control = s.control := by split <;> simp
    have hc := hdrop.control
    refine hdrop.of_control ⟨hc.cause, hc.quiet, hc.joinReply, fun _ => ?_, hc.note, hc.listen, hc.off⟩ rfl
    rw [hcontrol, hs]

/-- FOUNDING and JOINING are left for the group with a copy of its record (R2). -/
theorem enterWithRecord (h : Placed s) (hs : s.control.state = .founding ∨ s.control.state = .joining)
    {new : StationState} (hnew : new = .member ∨ new = .syncing) (r : Record) :
    Placed (Machine.changeState new (s.setRecord (some r))) := by
  have hnil : (leaveState (s.setRecord (some r))).agenda.purposes = [] :=
    leaveState_purposes_eq_nil (s := s.setRecord (some r)) h.purposes (by rcases hs with hs | hs <;> simp [hs])
  have hlocked : s.port.store.locked = true := h.locked (by rcases hs with hs | hs <;> simp [hs])
  have hlisten : s.control.state ≠ .listen := by rcases hs with hs | hs <;> simp [hs]
  refine changeState (s := s.setRecord (some r)) h.control ?_ (fun hl => absurd hl hlisten) ?_ (fun p hp => ?_)
    (fun _ => hlocked)
  · rcases hnew with rfl | rfl <;> decide
  · rcases hnew with rfl | rfl <;> rfl
  · rw [hnil] at hp
    exact absurd hp List.not_mem_nil

theorem foundingMarked (h : Placed s) (a : Attempt) : Placed (foundingMarked a s) := by
  have hc := h.control
  rw [foundingMarked_eq]
  exact h.of_control ⟨hc.cause, hc.quiet, hc.joinReply, hc.wait, hc.note, hc.listen, hc.off⟩ rfl

theorem foundingEnds (h : Placed s) (hs : s.control.state = .founding) (a : Attempt) : Placed (foundingEnds a s) := by
  have h₁ := h.foundingMarked a
  have hs₁ : (Machine.foundingMarked a s).control.state = .founding := by
    rw [foundingMarked_eq]
    exact hs
  by_cases hfound : ∃ f ∈ a.driven, ∃ p, f.body = .found p
  · obtain ⟨f, hd, p, hb⟩ := hfound
    rw [foundingEnds_found hd hb]
    generalize Machine.foundingMarked a s = s₁ at h₁ hs₁
    split
    · exact h₁.enterWithRecord (.inl hs₁) (.inl rfl) _
    · have h₂ : Placed (countSent false s₁) := h₁.of_reacts (.countSent _ _)
      split
      · refine of_reacts (h₂.listen_of_no_record ?_ ?_) (.postFault _ _ _ _ _ _)
        · simp [hs₁, StationState.holdsRecord]
        · exact h₂.locked_of_ne (x := .founding) (by simpa using hs₁) (by decide)
      · exact h₂
  · push Not at hfound
    rw [foundingEnds_other hfound]
    exact h₁

theorem joinTimedOut (h : Placed s) (hs : s.control.state = .joining) : Placed (joinTimedOut s) := by
  have hlisten := h.listen_of_no_record (by rw [hs]; rfl) (h.locked_of_ne hs (by decide))
  have hc := hlisten.control
  have hnote : Placed ((Machine.changeState .listen s).setControl
      { (Machine.changeState .listen s).control with note := some 0 }) :=
    hlisten.of_control ⟨hc.cause, hc.quiet, hc.joinReply, hc.wait, fun _ => changeState_state _ _, hc.listen, hc.off⟩
      rfl
  exact hnote.of_reacts (.postFault _ _ _ _ _ _)

theorem isolatedByReply (h : Placed s) (hs : s.control.state = .joining) (k : FaultKind) (n : Option Station) :
    Placed (postFault k n none none none (Machine.changeState .isolated s)) := by
  refine of_reacts (changeState h.control (by decide) (by simp [hs]) ?_ (fun p hp => ?_)
    (fun _ => h.locked_of_ne hs (by decide))) (.postFault _ _ _ _ _ _)
  · rw [h.record, hs]
    rfl
  · rw [leaveState_purposes_eq_nil h.purposes (by simp [hs])] at hp
    exact absurd hp List.not_mem_nil

theorem replyHeard (h : Placed s) (hs : s.control.state = .joining) (f : Frame) (v : Verdict) (n : Nat) (p : Params) :
    Placed (replyHeard f v n p s) := by
  have hc := h.control
  cases v <;> unfold Machine.replyHeard <;> dsimp only
  case admitted =>
    exact h.enterWithRecord (.inr hs) (.inr rfl) _
  case deferred =>
    have hreply : Placed (s.setControl { s.control with joinReply := none }) :=
      h.of_control ⟨hc.cause, hc.quiet, by simp, hc.wait, hc.note, hc.listen, hc.off⟩ rfl
    have hdrop := hreply.of_reacts (.dropPurposes (fun x => x == .join) _)
    refine hdrop.of_control ⟨hdrop.control.cause, hdrop.control.quiet, hdrop.control.joinReply, hdrop.control.wait,
      hdrop.control.note, ?_, ?_⟩ rfl
    · simp [hs]
    · simp [hs]
  case mismatch => exact h.isolatedByReply hs _ _
  case duplicate => exact h.isolatedByReply hs _ _

theorem joiningEnds (h : Placed s) (hs : s.control.state = .joining) (a : Attempt) : Placed (joiningEnds a s) := by
  by_cases hjoin : ∃ f ∈ a.driven, ∃ p, f.body = .join p
  · obtain ⟨f, hd, p, hb⟩ := hjoin
    rw [joiningEnds_join hd hb]
    split
    · have hdrop := h.of_reacts (.dropPurposes (fun x => x == .join) s)
      have hc := hdrop.control
      exact hdrop.of_control ⟨hc.cause, hc.quiet, fun _ => hs, hc.wait, hc.note, hc.listen, hc.off⟩ rfl
    · have hcount := h.of_reacts (.countSent false s)
      split
      · exact hcount.joinTimedOut (by simpa using hs)
      · exact hcount
  · push Not at hjoin
    rcases joiningEnds_other hjoin s with heq | ⟨f, v, count, m, p, -, -, -, -, heq⟩ <;> rw [heq]
    · exact h
    · exact h.replyHeard hs _ _ _ _

theorem listenObserves (h : Placed s) (hs : s.control.state = .listen) (head : Option Frame) :
    Placed (listenObserves head s) := by
  have hc := h.control
  unfold Machine.listenObserves
  dsimp only
  split
  · split
    · exact h.of_control ⟨hc.cause, hc.quiet, hc.joinReply, hc.wait, hc.note, hc.listen, hc.off⟩ rfl
    · exact h
  · rename_i hback
    have hnone : s.control.backoff = none := by simpa using hback
    have hagain : Placed (s.setControl { s.control with quiet := some (quietInterval s) }) :=
      h.of_control ⟨hc.cause, fun _ => hs, hc.joinReply, hc.wait, hc.note, fun _ => by simp [hnone], hc.off⟩ rfl
    split
    · exact hagain
    · exact h.toJoining (.inr hs)
    · split
      · have ha := hagain.control
        exact hagain.of_control ⟨ha.cause, ha.quiet, ha.joinReply, ha.wait, fun _ => hs, ha.listen, ha.off⟩ rfl
      · exact h.toJoining (.inr hs)

theorem attemptObserved (h : Placed s) (a : Attempt) : Placed (attemptObserved a s) := by
  unfold Machine.attemptObserved
  split
  case h_1 hs | h_2 hs | h_3 hs =>
    split
    · exact h.memberJudges (by rw [hs]; rfl) a _
    · exact h
  case h_4 hs => exact h.departingEnds hs a
  case h_5 hs => exact h.foundingEnds hs a
  case h_6 hs => exact h.joiningEnds hs a
  case h_7 hs => exact h.listenObserves hs _
  all_goals exact h

theorem attemptEnds (h : Placed s) (ws : List Word16) (a : Attempt) : Placed (attemptEnds ws a s) := by
  have h₁ : Placed (restartIdle (s.setBus { pointAfter { a with responses := ws } s.bus with attempt := none })) :=
    h.of_blocks rfl rfl rfl rfl
  have h₃ := (h₁.attemptObserved { a with responses := ws }).of_reacts
    (.postDuplicate (ownNumberSeen s.number { a with responses := ws }) _)
  unfold Machine.attemptEnds
  dsimp only
  refine updateRequest ?_
  split
  · exact h₃.of_blocks rfl rfl rfl rfl
  · exact h₃

theorem finishAttempt (h : Placed s) (ws : List Word16) (a : Attempt) : Placed (finishAttempt ws a s) := by
  unfold Machine.finishAttempt
  split
  · exact h.of_blocks rfl rfl rfl rfl
  · exact h.attemptEnds ws a

/-! ### Timers -/

theorem idleTimerExpiry (h : Placed s) {t : State} (ht : exec .idleTimerExpiry s = .next t) : Placed t := by
  change Host.Outcome.next _ = _ at ht
  cases ht
  have hstop : Placed (s.setAgenda { s.agenda with idle := none }) := h.of_blocks rfl rfl rfl rfl
  split
  · dsimp only
    split
    · exact (hstop.of_reacts (.addPurpose _ (by decide) (by decide))).updateRequest
    · exact hstop.updateRequest
  · exact h

theorem departingWaitExpiry (h : Placed s) {t : State} (ht : exec .departingWaitExpiry s = .next t) : Placed t := by
  change Host.Outcome.next _ = _ at ht
  cases ht
  have hc := h.control
  have hstop : Placed (s.setControl { s.control with wait := none }) :=
    h.of_control ⟨hc.cause, hc.quiet, hc.joinReply, by simp, hc.note, hc.listen, hc.off⟩ rfl
  split
  · exact (hstop.of_reacts (.addPurpose _ (by decide) (by decide))).updateRequest
  · exact h

theorem quietTimerExpiry (h : Placed s) {t : State} (ht : exec .quietTimerExpiry s = .next t) : Placed t := by
  change Host.Outcome.next _ = _ at ht
  cases ht
  split
  · rename_i hs
    refine (changeState h.control (by decide) (by simp) ?_ (fun p hp => ?_)
      (fun _ => h.locked_of_ne hs.2 (by decide))).updateRequest
    · rw [h.record, hs.2]
      rfl
    · rw [leaveState_purposes_eq_nil h.purposes (by simp [hs.2])] at hp
      exact absurd hp List.not_mem_nil
  · exact h

theorem joinReplyTimerExpiry (h : Placed s) {t : State} (ht : exec .joinReplyTimerExpiry s = .next t) : Placed t := by
  change Host.Outcome.next _ = _ at ht
  cases ht
  split
  · rename_i hs
    exact (h.joinTimedOut hs.2).updateRequest
  · exact h

theorem backoffTimerExpiry (h : Placed s) {t : State} (ht : exec .backoffTimerExpiry s = .next t) : Placed t := by
  change Host.Outcome.next _ = _ at ht
  cases ht
  have hc := h.control
  split
  · exact h
  · rename_i b follow hback
    refine updateRequest ?_
    have hstop : s.control.state ≠ .listen →
        Placed (s.setControl { s.control with backoff := none, headNoted := false }) := fun hne =>
      h.of_control ⟨hc.cause, hc.quiet, hc.joinReply, hc.wait, hc.note, fun hl => absurd hl hne, fun _ => rfl⟩ rfl
    unfold backoffEnds
    split
    · rename_i hs
      change s.control.state = .listen at hs
      split
      · have hj := h.toJoining (.inr hs)
        have hcj := hj.control
        have hfits : ({ (Machine.changeState .joining s).control with backoff := none } : Control).Fits :=
          ⟨hcj.cause, hcj.quiet, hcj.joinReply, hcj.wait, hcj.note, by simp, fun _ => rfl⟩
        have hcontrol : (Machine.changeState .joining
            (s.setControl { s.control with backoff := none, headNoted := false })).control =
              { (Machine.changeState .joining s).control with backoff := none } := by
          simp [changeState_control, leftControl, hs, enteredControl]
        refine ⟨?_, hcontrol ▸ hfits, purposesFit_changeState fun p hp => ?_, fun _ => ?_⟩
        · simp [h.record, hs, StationState.holdsRecord]
        · have hnil := leaveState_purposes_eq_nil h.purposes (by simp [hs])
          rw [leaveState_agenda] at hnil hp
          have hp' : p ∈ ([] : List Purpose) := hnil ▸ hp
          exact absurd hp' List.not_mem_nil
        · simpa using h.locked_of_ne hs (by decide)
      · exact h.of_control (c := { s.control with backoff := none, headNoted := false, quiet := some (quietInterval _) })
          ⟨hc.cause, fun _ => hs, hc.joinReply, hc.wait, hc.note, fun _ => by simp, fun _ => rfl⟩ rfl
    · rename_i hs
      change s.control.state = .joining at hs
      have hu := hstop (by simp [hs])
      split
      · exact hu.of_same (by simp) (by simp) (fun hp => purposesFit_addPurpose hp (by simp [hs, aimFits])) (by simp)
      · exact hu
    all_goals
      rename_i hs
      exact hstop fun hl => absurd (hs.symm.trans hl) (by decide)

theorem setAsideTimerExpiry (h : Placed s) {age : Nat} {t : State} (ht : exec (.setAsideTimerExpiry age) s = .next t) :
    Placed t := by
  change Host.Outcome.next _ = _ at ht
  cases ht
  split
  · refine (h.of_reacts (.map s _ (fun p => ?_) (fun p => ?_) (fun p hp => ?_))).updateRequest
    all_goals split
    all_goals first | rfl | exact hp
  · exact h

theorem addRevoke_reacts (x : Source) (hd : Option Handle) (u : State) : Reacts u (addRevoke x hd u) := by
  unfold addRevoke
  split
  · exact .refl u
  · split
    · exact .refl u
    · exact .addPurpose _ (by simp) (by simp)

theorem serviceTimerExpiry (h : Placed s) {x : Source} {t : State} (ht : exec (.serviceTimerExpiry x) s = .next t) :
    Placed t := by
  change Host.Outcome.next _ = _ at ht
  cases ht
  split
  · split
    · exact (h.of_reacts ((Reacts.changeLine _ _ s).trans (addRevoke_reacts _ _ _))).updateRequest
    · exact h
  · split
    · exact h
    · split
      · exact (h.of_reacts ((Reacts.changeRaise _ _ s).trans (addRevoke_reacts _ _ _))).updateRequest
      · exact h

/-! ### Every step -/

theorem fits_reset : Control.reset.Fits :=
  ⟨by decide, by decide, by decide, by decide, by decide, by decide, fun _ => rfl⟩

theorem powerOnReset (n : Station) (levels : Word16) (pending : List Instr) : Placed { State.reset with
    number := n, origin := { Origin.reset with levels := levels }, pending := pending } := by
  exact ⟨rfl, fits_reset, fun p hp => absurd hp List.not_mem_nil, fun h => absurd rfl h⟩

theorem exec (h : Placed s) {c : Instr} (ht : exec c s = .next t) : Placed t := by
  cases c
  case idleTimerExpiry => exact h.idleTimerExpiry ht
  case departingWaitExpiry => exact h.departingWaitExpiry ht
  case quietTimerExpiry => exact h.quietTimerExpiry ht
  case joinReplyTimerExpiry => exact h.joinReplyTimerExpiry ht
  case backoffTimerExpiry => exact h.backoffTimerExpiry ht
  case setAsideTimerExpiry => exact h.setAsideTimerExpiry ht
  case serviceTimerExpiry => exact h.serviceTimerExpiry ht
  all_goals
    change Host.Outcome.next _ = _ at ht
    cases ht
  case powerOnReset n => exact powerOnReset _ _ _
  case set => exact (h.takeCommand _).commandSet
  case start => exact (h.takeCommand _).commandStart
  case restart => exact (h.takeCommand _).commandRestart
  case leave => exact (h.takeCommand _).commandLeave
  case pause => exact (h.takeCommand _).commandPause _
  case resume => exact (h.takeCommand _).commandPause _
  case readGrant => exact (h.takeCommand _).commandReadGrant
  case finish => exact (h.takeCommand _).commandFinish
  case raise => exact (h.takeCommand _).commandRaise
  case enableLine => exact (h.takeCommand _).commandEnableLine
  case readCompletion => exact (h.takeCommand _).commandReadCompletion
  case readFault => exact (h.takeCommand _).commandReadFault
  case inspect => exact (h.takeCommand _).commandInspect
  case status => exact (h.takeCommand _).commandStatus
  case unknownCommand code => exact h.writeCommand code
  case irqMaskWrite v => exact h.of_blocks rfl rfl rfl rfl
  case windowWrite loc v => exact h.writeWindow loc v
  case eventLineChange n level => exact (h.of_reacts (.inputChanges n level s)).updateRequest
  case busAtRest =>
    split
    · exact updateRequest (h.of_blocks rfl rfl rfl rfl)
    · exact h
  case arbitrationOpen others =>
    split
    · exact h.of_blocks rfl rfl rfl rfl
    · exact h
  case arbitrationClose lines =>
    split
    · exact (h.arbitrationCloses lines).updateRequest
    · exact h
  case frameEnd words =>
    split
    · exact h
    · split
      · exact h
      · exact h.of_blocks rfl rfl rfl rfl
  case attemptEnd w0 w1 w2 w3 =>
    split
    · exact h
    · split
      · exact h.finishAttempt _ _
      · exact h
  case attemptBroken strobed =>
    split
    · exact h
    · exact h.finishAttempt _ _

theorem step (h : Placed s) (ht : step s = .next t) : Placed t := by
  unfold Machine.step at ht
  split at ht
  · cases ht
    exact h.of_blocks rfl rfl rfl rfl
  · rename_i rest _
    exact exec (s := s.setPending rest) (h.of_blocks rfl rfl rfl rfl) ht

end Placed

end Sys2Proof.Machine

namespace Sys2Proof.Proofs

open Sys2Proof.Machine

/-- Settles O59: the place in its four parts, each kept by every command. -/
theorem everyStepKeepsThePlace : Obligations.EveryStepKeepsThePlace := by
  intro s t h ht
  exact placeSound_iff.mpr ((placeSound_iff.mp h).step ht)

end Sys2Proof.Proofs
end


section
/-! The order list of the copy, at a member and at the joiner: every judgement keeps it (R12). -/

set_option Elab.async false

namespace Sys2Proof.Machine

theorem ordered_of_entries {r r' : Record} (h : r'.entries.map Entry.slot = r.entries.map Entry.slot)
    (ho : r.Ordered) : r'.Ordered := by
  unfold Record.Ordered
  rw [h]
  exact ho

/-- An entry appended in a free slot keeps the order list (R12). -/
theorem ordered_append {r : Record} {e : Entry} {es : List Entry} (ho : r.Ordered) (hes : es = r.entries ++ [e])
    (hfree : entryAt r e.slot = none) : (es.map Entry.slot).Nodup := by
  rw [hes, List.map_append, List.nodup_append]
  refine ⟨ho, List.nodup_singleton _, fun x hx y hy hxy => ?_⟩
  obtain ⟨e', he', rfl⟩ := List.mem_map.mp hx
  obtain rfl := List.mem_singleton.mp hy
  exact entryAt_none.mp hfree e' he' hxy

theorem removeEntry_ordered {r : Record} (ho : r.Ordered) (k : Slot) : (removeEntry r k).Ordered := by
  unfold Record.Ordered
  rw [removeEntry_orderList]
  exact ho.filter _

theorem changeEntry_ordered {r : Record} (ho : r.Ordered) (k : Slot) {f : Entry → Entry}
    (hf : ∀ e, (f e).slot = e.slot) : (changeEntry r k f).Ordered :=
  ordered_of_entries (changeEntry_orderList r k f hf) ho

/-- What acts on an entry and keeps the order list does so whether or not the handle names one. -/
theorem onEntry_ordered {t : Tally} (ho : t.record.Ordered) (h : Handle) {f : Record → Entry → Record}
    (hf : ∀ e, (f t.record e).Ordered) (b : Entry → Became) : (onEntry t h f b).record.Ordered := by
  unfold onEntry
  split
  · exact ho
  · exact hf _

theorem joinTakes_entries (n : Station) (r : Record) (p : Params) : (joinTakes n r p).entries = r.entries := by
  unfold joinTakes
  dsimp only
  (repeat' split) <;> rfl

theorem replyTakes_ordered {r : Record} (ho : r.Ordered) (me : Station) (count : Nat) :
    (replyTakes me r count).Ordered := by
  unfold replyTakes
  split
  · exact ho
  · split
    · exact ho
    · split
      · unfold Record.Ordered
        dsimp only
        split
        · exact List.nodup_nil
        · exact ho
      · exact ho

theorem entryTakes_ordered {r : Record} (ho : r.Ordered) {me n : Station} {position : Nat} {e : Entry}
    (hok : entryOk me n r position e = true) : (entryTakes me r e).Ordered := by
  unfold Record.Ordered entryTakes
  cases hj : isJoiner me r with
  | false => simpa using ho
  | true =>
    unfold entryOk at hok
    split at hok
    · exact absurd hok (by decide)
    · simp only [hj, if_true, Bool.and_eq_true] at hok
      exact ordered_append ho rfl (Option.isNone_iff_eq_none.mp hok.2)

/-- A frame whose checks pass keeps the order list (R12). -/
theorem applyBody_ordered {me n : Station} {seq : Tag} {t : Tally} {b : Body} (ho : t.record.Ordered)
    (hok : contentOk me n t.record b = true) : (applyBody me n seq t b).record.Ordered := by
  cases b with
  | null | beacon | found _ => exact ho
  | leave => exact departEffects_ordered ho
  | offer k code prio targets p =>
    obtain ⟨-, hfree, -⟩ := offerOk_iff.mp hok
    exact ordered_append ho rfl (entryAt_none.mpr hfree)
  | claim h =>
    exact onEntry_ordered ho h (fun e => changeEntry_ordered ho _ (by simp)) _
  | done h | withdraw h => exact onEntry_ordered ho h (fun e => removeEntry_ordered ho _) _
  | revoke h =>
    refine onEntry_ordered ho h (fun e => ?_) _
    unfold revokeEntry
    split
    · exact changeEntry_ordered ho _ (by simp)
    · exact removeEntry_ordered ho _
  | join p => exact ordered_of_entries (by rw [applyBody, Tally.update, joinTakes_entries]) ho
  | reply _ _ count _ _ => exact replyTakes_ordered ho me count
  | entry position e => exact entryTakes_ordered ho hok
  | close _ => exact ho

theorem departAll_ordered (l : List Station) {r : Record} (ho : r.Ordered) :
    (l.foldl (fun r n => departEffects n r) r).Ordered := by
  induction l generalizing r with
  | nil => exact ho
  | cons n l ih => exact ih (departEffects_ordered ho)

theorem afterAbstentions_ordered {r : Record} (ho : r.Ordered) (fields : Vector Response 16) :
    (afterAbstentions r fields).record.Ordered := by
  rw [afterAbstentions_record]
  exact departAll_ordered _ ho

/-- Every judgement keeps the order list of the copy (R12). -/
theorem judge_ordered {r : Record} (ho : r.Ordered) (me : Station) (x : Seen) : (judge me x r).record.Ordered := by
  have hleft := afterAbstentions_ordered ho x.fields
  rcases judge_cases me x r with h0 | ⟨h0, ht, hj⟩ | ⟨h0, ht, hj⟩
  · rw [judge_of_none_left h0]
    exact hleft
  · rw [hj]
    rcases judgeTaken_cases me x (abstainers r x.fields) (afterAbstentions r x.fields) with
      ⟨f, -, happ, -, hr, -⟩ | ⟨-, -, hr, -⟩ <;> rw [hr]
    · exact applyBody_ordered hleft (applies_iff.mp happ).2.1
    · exact hleft
  · rw [hj, judgeFailed_record]
    exact departAll_ordered _ hleft

/-! ### The station's copy -/

theorem recordSound_of_same {s t : State} (h : RecordSound s) (hr : t.record = s.record) : RecordSound t := by
  unfold RecordSound
  rw [hr]
  exact h

end Sys2Proof.Machine
end


section
/-! The agenda's order (R84), what the bus interface observes (R24, R94), and the request line (R25), through the
changes of station state. -/

set_option Elab.async false

namespace Sys2Proof.Machine

/-! ### The agenda -/

theorem agendaSound_of_same {s t : State} (h : AgendaSound s) (hp : t.agenda.purposes = s.agenda.purposes)
    (hn : t.agenda.nextAge = s.agenda.nextAge) (hl : t.port.store.l = s.port.store.l) : AgendaSound t := by
  unfold AgendaSound
  rw [hp, hn, hl]
  exact h

/-- An empty agenda is in order. -/
theorem agendaSound_nil {s : State} (hp : s.agenda.purposes = []) (hl : 1 ≤ s.port.store.l) : AgendaSound s := by
  unfold AgendaSound
  rw [hp]
  exact ⟨List.Pairwise.nil, fun _ h => absurd h List.not_mem_nil, hl⟩

theorem agendaSound_leaveState {s : State} (h : AgendaSound s) : AgendaSound (leaveState s) := by
  have hkeep : ∀ (x : Control) which, AgendaSound (dropPurposes which (s.setControl x)) := fun x which =>
    (Reacts.dropPurposes which _).sound (agendaSound_of_same h rfl rfl rfl)
  unfold leaveState
  split
  · exact agendaSound_of_same h rfl rfl rfl
  · exact agendaSound_of_same h rfl rfl rfl
  · exact (Reacts.dropPurposes _ s).sound h
  · exact hkeep _ _
  all_goals exact h

/-- Entering FOUNDING or JOINING adds the purpose the state is entered with. -/
theorem changeState_founding (s : State) : changeState .founding s =
    addPurpose .found ((markState .founding (leaveState s)).setControl
      { (markState .founding (leaveState s)).control with foreign := false, note := none }) := rfl

theorem changeState_joining (s : State) : changeState .joining s =
    addPurpose .join ((markState .joining (leaveState s)).setControl
      { (markState .joining (leaveState s)).control with note := none }) := rfl

theorem addPurpose_sent (a : Aim) (s : State) : (addPurpose a s).agenda.sent = s.agenda.sent := by
  rcases addPurpose_cases a s with ⟨-, -, heq⟩ | ⟨-, heq⟩ <;> rw [heq]
  rfl

theorem addPurpose_idle (a : Aim) (s : State) : (addPurpose a s).agenda.idle = s.agenda.idle := by
  rcases addPurpose_cases a s with ⟨-, -, heq⟩ | ⟨-, heq⟩ <;> rw [heq]
  rfl

theorem agendaSound_changeState {s : State} (new : StationState) (h : AgendaSound s) :
    AgendaSound (changeState new s) := by
  have hu : AgendaSound (markState new (leaveState s)) :=
    agendaSound_of_same (agendaSound_leaveState h) rfl rfl rfl
  have hl : 1 ≤ (changeState new s).port.store.l := by
    rw [((SameHostSide.changeState (s := s) new).mpr (.refl s)).store]
    exact h.2.2
  cases new
  case offline => exact agendaSound_nil (by rw [changeState_agenda_off _ (.inl rfl)]) hl
  case isolated => exact agendaSound_nil (by rw [changeState_agenda_off _ (.inr rfl)]) hl
  case departing => exact agendaSound_nil (by rw [changeState_agenda_departing]) hl
  case listen => exact agendaSound_of_same hu (by rw [changeState_agenda_listen]; simp) (by rw [changeState_agenda_listen]; simp) (by simp)
  case founding =>
    rw [changeState_founding]
    exact agendaSound_addPurpose _ (agendaSound_of_same hu rfl rfl rfl)
  case joining =>
    rw [changeState_joining]
    exact agendaSound_addPurpose _ (agendaSound_of_same hu rfl rfl rfl)
  case member =>
    rw [changeState_member]
    exact ((Reacts.originEnters _).trans (Reacts.updateWant _)).sound hu
  case syncing =>
    rw [changeState_syncing]
    exact (Reacts.updateWant _).sound hu
  case leaving =>
    rw [changeState_leaving]
    exact (Reacts.updateWant _).sound hu

/-- A change of station state leaves the sent purpose, and the idle timer unless it stops with observing. -/
theorem changeState_sent (new : StationState) (s : State) : (changeState new s).agenda.sent = s.agenda.sent := by
  have hleave : (leaveState s).agenda.sent = s.agenda.sent := by rw [leaveState_agenda]
  cases new
  case offline => rw [changeState_agenda_off _ (.inl rfl)]
  case isolated => rw [changeState_agenda_off _ (.inr rfl)]
  case departing => rw [changeState_agenda_departing]
  case listen => rw [changeState_agenda_listen, hleave]
  case founding => rw [changeState_founding, addPurpose_sent]; exact hleave
  case joining => rw [changeState_joining, addPurpose_sent]; exact hleave
  case member =>
    rw [changeState_member, (Reacts.updateWant _).sent, (Reacts.originEnters _).sent]
    exact hleave
  case syncing => rw [changeState_syncing, (Reacts.updateWant _).sent]; exact hleave
  case leaving => rw [changeState_leaving, (Reacts.updateWant _).sent]; exact hleave

theorem changeState_idle {new : StationState} (s : State) (hnew : new ≠ .offline ∧ new ≠ .isolated) :
    (changeState new s).agenda.idle = s.agenda.idle := by
  have hleave : (leaveState s).agenda.idle = s.agenda.idle := by rw [leaveState_agenda]
  cases new
  case offline => exact absurd rfl hnew.1
  case isolated => exact absurd rfl hnew.2
  case departing => rw [changeState_agenda_departing]
  case listen => rw [changeState_agenda_listen, hleave]
  case founding => rw [changeState_founding, addPurpose_idle]; exact hleave
  case joining => rw [changeState_joining, addPurpose_idle]; exact hleave
  case member =>
    rw [changeState_member, (Reacts.updateWant _).idle, (Reacts.originEnters _).idle]
    exact hleave
  case syncing => rw [changeState_syncing, (Reacts.updateWant _).idle]; exact hleave
  case leaving => rw [changeState_leaving, (Reacts.updateWant _).idle]; exact hleave

/-! ### What the bus interface observes (R24, R94) -/

/-- An attempt in flight is observed, unless its record is to be discarded; off the bus nothing is observed but such
an attempt; the idle timer runs only while the station observes. -/
structure Observing (s : State) : Prop where
  attempt : s.bus.attempt.isSome → s.bus.observing = true
  discard : ∀ a ∈ s.bus.attempt, a.discard = true ↔ s.off ∨ s.bus.awaitRest = true
  off : s.off → s.bus.awaitRest = false ∧ (s.bus.attempt = none → s.bus.observing = false)
  idle : s.agenda.idle.isSome → s.bus.observing = true
  on : ¬s.off → s.bus.observing = true ∨ s.bus.awaitRest = true

/-- The request line follows the agenda's report (R25). -/
def LineFollows (s : State) : Prop :=
  s.bus.request = (s.bus.observing && !s.bus.awaitRest && !sending s && wantsBus s)

/-- The sent purpose is that of an own attempt (R84). -/
def SentGoesWith (s : State) : Prop := s.agenda.sent.isSome → sending s = true

theorem requestSound_iff {s : State} : RequestSound s ↔ LineFollows s ∧ Observing s ∧ SentGoesWith s :=
  ⟨fun ⟨h1, h2, h3, h4, h5, h6, h7⟩ => ⟨h1, ⟨h2, h3, h4, h5, h6⟩, h7⟩,
    fun ⟨h1, ⟨h2, h3, h4, h5, h6⟩, h7⟩ => ⟨h1, h2, h3, h4, h5, h6, h7⟩⟩

theorem lineFollows_updateRequest (s : State) : LineFollows (updateRequest s) := by
  unfold LineFollows
  rw [updateRequest_request]
  rfl

/-- What the agenda reports to the bus depends on these parts alone. -/
theorem wantsBus_congr {s t : State} (hn : t.number = s.number) (hr : t.record = s.record)
    (hs : t.control.state = s.control.state) (hp : t.agenda.purposes = s.agenda.purposes)
    (hpause : t.claim.paused = s.claim.paused) (hfilters : t.claim.filters = s.claim.filters)
    (hgrants : t.claim.grants.length = s.claim.grants.length) (hd : t.port.store.d = s.port.store.d) :
    wantsBus t = wantsBus s := by
  have hcand : candidates t = candidates s := by simp only [candidates, hr, hn, hfilters]
  have hwant : wantsToClaim t = wantsToClaim s := by
    simp only [wantsToClaim, grantRoom, hcand, hs, hpause, hgrants, hd]
  have helig : eligible t = eligible s := by
    unfold eligible freezeStands
    rw [hwant, hcand, hr]
  have haim : ∀ a, aimSendable t a = aimSendable s a := by
    intro a
    cases a <;> simp only [aimSendable, freezeStands, offerRoom, helig, hr, hn]
  unfold wantsBus sendable
  rw [hp]
  simp only [haim]

namespace Observing

variable {s t : State}

theorem of_same (h : Observing s) (ho : t.off ↔ s.off) (hattempt : t.bus.attempt = s.bus.attempt)
    (hobs : t.bus.observing = s.bus.observing) (hrest : t.bus.awaitRest = s.bus.awaitRest)
    (hidle : t.agenda.idle = s.agenda.idle) : Observing t where
  attempt := by rw [hattempt, hobs]; exact h.attempt
  discard := by rw [hattempt, hrest]; exact fun a ha => (h.discard a ha).trans (or_congr ho.symm Iff.rfl)
  off hoff := by rw [hrest, hattempt, hobs]; exact h.off (ho.mp hoff)
  idle := by rw [hidle, hobs]; exact h.idle
  on hon := by rw [hobs, hrest]; exact h.on (mt ho.mpr hon)

theorem of_reacts (h : Observing s) (r : Reacts s t) : Observing t :=
  h.of_same (by rw [State.off, r.control]) (by rw [r.bus]) (by rw [r.bus]) (by rw [r.bus]) r.idle

/-- The bus and the idle timer stay, and so does the station state. -/
theorem of_blocks (h : Observing s) (hbus : t.bus = s.bus) (hstate : t.control.state = s.control.state)
    (hidle : t.agenda.idle = s.agenda.idle) : Observing t :=
  h.of_same (by rw [State.off, hstate]) (by rw [hbus]) (by rw [hbus]) (by rw [hbus]) hidle

/-- A change of state on the bus. -/
theorem changeState (h : Observing s) (hs : ¬s.off) {new : StationState} (hnew : new ≠ .offline ∧ new ≠ .isolated) :
    Observing (changeState new s) := by
  have hoff : (Machine.changeState new s).off ↔ s.off := by
    simp only [State.off, changeState_state, hnew.1, hnew.2, false_or, false_iff]
    exact hs
  have hidle := changeState_idle s hnew
  by_cases hl : new = .listen
  · subst hl
    have hbus := changeState_bus_listen s
    exact h.of_same hoff (by rw [hbus]) (by rw [hbus]) (by rw [hbus]) hidle
  · have hbus := changeState_bus s ⟨hnew.1, hnew.2, hl⟩
    exact h.of_same hoff (by rw [hbus]) (by rw [hbus]) (by rw [hbus]) hidle

theorem stopObserving_bus_none (h : s.bus.attempt = none) : (stopObserving s).bus = { s.bus with
    observing := false, awaitRest := false, arbitrating := false, request := false, requestChanged := false } := by
  unfold Machine.stopObserving
  rw [h]
  rfl

theorem stopObserving_bus_some {a : Attempt} (h : s.bus.attempt = some a) : (stopObserving s).bus = { s.bus with
    awaitRest := false, arbitrating := false, request := false, attempt := some { a with discard := true } } := by
  unfold Machine.stopObserving
  rw [h]
  rfl

/-- Going off the bus, with an attempt in flight whose record is then to be discarded, or with none. -/
theorem changeState_off (h : Observing s) {new : StationState} (hnew : new = .offline ∨ new = .isolated) :
    Observing (Machine.changeState new s) := by
  have hoff : (Machine.changeState new s).off := by simpa [State.off] using hnew
  have hagenda := changeState_agenda_off s hnew
  have hbus := changeState_bus_off s hnew
  cases ha : s.bus.attempt with
  | none =>
    rw [stopObserving_bus_none ha] at hbus
    exact ⟨by simp [hbus, ha], by simp [hbus, ha], fun _ => by simp [hbus], by simp [hagenda, ha],
      fun hon => absurd hoff hon⟩
  | some a =>
    rw [stopObserving_bus_some ha] at hbus
    have hobs := h.attempt (by rw [ha]; rfl)
    refine ⟨fun _ => by rw [hbus]; exact hobs, fun b hb => ?_, fun _ => by simp [hbus], fun _ => by rw [hbus]; exact hobs,
      fun hon => absurd hoff hon⟩
    rw [hbus] at hb
    obtain rfl : { a with discard := true } = b := by simpa using hb
    simp [hoff]

/-- Observing starts from a state off the bus, and LISTEN is entered (R24). -/
theorem startObserving (h : Observing s) (hs : s.off) {u : State} (hbus : u.bus = { s.bus with awaitRest := true })
    (hidle : u.agenda.idle = s.agenda.idle) : Observing (Machine.changeState .listen u) := by
  have hb := changeState_bus_listen u
  have hid := (changeState_idle (new := .listen) u (by decide)).trans hidle
  have hon : ¬(Machine.changeState .listen u).off := by simp [State.off]
  rw [hbus] at hb
  refine ⟨?_, fun a ha => ?_, fun ho => absurd ho hon, ?_, fun _ => .inr (by rw [hb])⟩
  · rw [hb]
    exact h.attempt
  · rw [hb] at ha
    have hdis := (h.discard a ha).mpr (.inl hs)
    simp [hdis, hb]
  · rw [hid, hb]
    exact h.idle

end Observing

/-! ### The sent purpose -/

theorem sentGoesWith_of_same {s t : State} (h : SentGoesWith s) (hattempt : t.bus.attempt = s.bus.attempt)
    (hsent : t.agenda.sent = s.agenda.sent) : SentGoesWith t := by
  unfold SentGoesWith sending
  rw [hattempt, hsent]
  exact h

theorem sentGoesWith_changeState {s : State} (h : SentGoesWith s) (new : StationState) :
    SentGoesWith (changeState new s) := by
  have hsent := changeState_sent new s
  by_cases hoff : new = .offline ∨ new = .isolated
  · unfold SentGoesWith sending
    rw [hsent, changeState_bus_off s hoff]
    cases ha : s.bus.attempt with
    | none =>
      rw [Observing.stopObserving_bus_none ha, ha]
      unfold SentGoesWith sending at h
      rw [ha] at h
      exact h
    | some a =>
      rw [Observing.stopObserving_bus_some ha]
      unfold SentGoesWith sending at h
      rw [ha] at h
      exact h
  · by_cases hl : new = .listen
    · subst hl
      exact sentGoesWith_of_same h (by rw [changeState_bus_listen]) hsent
    · exact sentGoesWith_of_same h (by rw [changeState_bus s ⟨by tauto, by tauto, hl⟩]) hsent

end Sys2Proof.Machine
end


section
/-! The host port's accounts: each reservation belongs to one record or leave (R158, R159), through the reactions that
leave the station state alone. -/

set_option Elab.async false

namespace Sys2Proof.Machine

/-! ### What leaves the raise list alone -/

@[simp] theorem changeLine_raises (n : Line) (f : LineRecord → LineRecord) (s : State) :
    (changeLine n f s).origin.raises = s.origin.raises := rfl

@[simp] theorem lineWants_raises (n : Line) (s : State) : (lineWants n s).origin.raises = s.origin.raises := by
  simp [lineWants]

@[simp] theorem evaluateLine_raises (n : Line) (s : State) :
    (evaluateLine n s).origin.raises = s.origin.raises := by
  unfold evaluateLine
  split <;> simp

@[simp] theorem checkWithdraw_raises (n : Line) (s : State) :
    (checkWithdraw n s).origin.raises = s.origin.raises := by
  simp

@[simp] theorem levelInactive_raises (n : Line) (s : State) :
    (levelInactive n s).origin.raises = s.origin.raises := by
  unfold levelInactive
  split
  · split <;> simp
  · simp
  all_goals rfl

@[simp] theorem edgeReceived_raises (n : Line) (s : State) :
    (edgeReceived n s).origin.raises = s.origin.raises := by
  unfold edgeReceived
  split
  · split <;> simp
  all_goals rfl

@[simp] theorem lineEvent_raises (n : Line) (level : Bool) (s : State) :
    (lineEvent n level s).origin.raises = s.origin.raises := by
  unfold lineEvent levelActive
  split
  · rfl
  · rfl
  all_goals split <;> simp

@[simp] theorem inputChanges_raises (n : Line) (level : Bool) (s : State) :
    (inputChanges n level s).origin.raises = s.origin.raises := by
  unfold inputChanges
  split <;> simp

@[simp] theorem rearmLine_raises (n : Line) (s : State) : (rearmLine n s).origin.raises = s.origin.raises := by
  unfold rearmLine
  dsimp only
  (repeat' split) <;> simp

/-- Changing what a raise record holds besides its id keeps the ids of the list. -/
theorem changeRaise_ids (id : RaiseId) {f : RaiseRecord → RaiseRecord} (hf : ∀ r, (f r).id = r.id) (s : State) :
    (changeRaise id f s).origin.raises.map RaiseRecord.id = s.origin.raises.map RaiseRecord.id := by
  rw [changeRaise_origin, List.map_map]
  refine List.map_congr_left fun r _ => ?_
  simp only [Function.comp]
  split
  · exact hf r
  · rfl

/-- Where no two records have one id, removing the record of an id leaves one less. -/
theorem removeRaise_length {s : State} (hnodup : (s.origin.raises.map RaiseRecord.id).Nodup) {r : RaiseRecord}
    (hr : r ∈ s.origin.raises) : (removeRaise r.id s).origin.raises.length + 1 = s.origin.raises.length := by
  have hinj := List.inj_on_of_nodup_map hnodup
  have hdup : s.origin.raises.Nodup := hnodup.of_map
  have heq : (removeRaise r.id s).origin.raises = s.origin.raises.erase r := by
    rw [hdup.erase_eq_filter]
    refine List.filter_congr fun x hx => ?_
    rw [Bool.eq_iff_iff, bne_iff_ne, bne_iff_ne]
    exact ⟨fun h e => h (by rw [e]), fun h e => h (hinj hx hr e)⟩
  rw [heq, List.length_erase_of_mem hr]
  have := List.length_pos_of_mem hr
  omega

/-! ### The accounts (R159) -/

/-- The accounts read the two queues, the reservations, the ids of the raise list, the states of the grants and whether
a LEAVE is held. -/
theorem accountsSound_of_same {s t : State} (h : AccountsSound s) (hreserved : t.port.reserved = s.port.reserved)
    (hcompletions : t.port.completions = s.port.completions) (hfaults : t.port.faults.length ≤ 8)
    (hraises : t.origin.raises.map RaiseRecord.id = s.origin.raises.map RaiseRecord.id)
    (hgrants : t.claim.grants = s.claim.grants) (hleave : leaveHeld t = leaveHeld s) : AccountsSound t := by
  have hlen : t.origin.raises.length = s.origin.raises.length := by simpa using congrArg List.length hraises
  unfold AccountsSound reservationsDue
  rw [hreserved, hcompletions, hraises, hgrants, hleave, hlen]
  obtain ⟨hdue, hroom, -, hlist, hids⟩ := h
  exact ⟨hdue, hroom, hfaults, hlist, hids⟩

theorem leaveHeld_congr {s t : State} (h : t.control = s.control) : leaveHeld t = leaveHeld s := by
  unfold leaveHeld
  rw [h]

/-- The accounts after k completions were posted, each on the reservation of a record or leave that is no longer held. -/
theorem accountsSound_of_posted {s t : State} (h : AccountsSound s) (k : Nat)
    (hreserved : t.port.reserved = s.port.reserved - k)
    (hcompletions : t.port.completions.length = s.port.completions.length + k) (hfaults : t.port.faults = s.port.faults)
    (hdue : reservationsDue t + k = reservationsDue s)
    (hraises : (t.origin.raises.map RaiseRecord.id).Sublist (s.origin.raises.map RaiseRecord.id)) :
    AccountsSound t := by
  obtain ⟨hbefore, hroom, hqueue, hlist, hids⟩ := h
  have hlen : t.origin.raises.length ≤ s.origin.raises.length := by simpa using hraises.length_le
  exact ⟨by omega, by omega, by rw [hfaults]; exact hqueue, by omega, hids.sublist hraises⟩

/-- The accounts after a reservation was taken for a record or leave held from then on. -/
theorem accountsSound_of_reserved {s t : State} (h : AccountsSound s) (hfree : freeReservations s ≠ 0)
    (hreserved : t.port.reserved = s.port.reserved + 1) (hcompletions : t.port.completions = s.port.completions)
    (hfaults : t.port.faults = s.port.faults) (hdue : reservationsDue t = reservationsDue s + 1)
    (hlist : t.origin.raises.length ≤ 8) (hids : (t.origin.raises.map RaiseRecord.id).Nodup) : AccountsSound t := by
  obtain ⟨hbefore, hroom, hqueue, -, -⟩ := h
  have hfree' : s.port.reserved + s.port.completions.length < 16 := by
    unfold freeReservations Config.completionDepth at hfree
    omega
  exact ⟨by omega, by rw [hcompletions]; omega, by rw [hfaults]; exact hqueue, hlist, hids⟩

/-! ### Reactions that keep the accounts -/

/-- A reaction that keeps the grant list and the accounts. -/
structure Booked (s t : State) : Prop where
  reacts : Reacts s t
  grants : t.claim.grants = s.claim.grants
  accounts : AccountsSound s → AccountsSound t

namespace Booked

@[simp] theorem refl (s : State) : Booked s s := ⟨.refl s, rfl, id⟩

theorem trans {s t u : State} (h : Booked s t) (k : Booked t u) : Booked s u :=
  ⟨h.reacts.trans k.reacts, k.grants.trans h.grants, k.accounts ∘ h.accounts⟩

theorem foldl {α : Type} {f : State → α → State} (h : ∀ s a, Booked s (f s a)) (l : List α) (s : State) :
    Booked s (l.foldl f s) := by
  induction l generalizing s with
  | nil => exact refl s
  | cons a l ih => exact (h s a).trans (ih (f s a))

variable {s t : State}

/-- A reaction that posts nothing and keeps the ids of the raise list. -/
theorem of_quiet (r : Reacts s t) (hclaim : t.claim = s.claim) (hport : t.port = s.port)
    (hraises : t.origin.raises.map RaiseRecord.id = s.origin.raises.map RaiseRecord.id) : Booked s t :=
  ⟨r, by rw [hclaim], fun h => accountsSound_of_same h (by rw [hport]) (by rw [hport]) (by rw [hport]; exact h.2.2.1)
    hraises (by rw [hclaim]) (leaveHeld_congr r.control)⟩

/-! ### The agenda -/

theorem addPurpose (s : State) {a : Aim} (hj : a ≠ .join) (hf : a ≠ .found) : Booked s (addPurpose a s) :=
  of_quiet (.addPurpose s hj hf) (by simp) (by simp) (by simp)

theorem dropPurposes (which : Aim → Bool) (s : State) : Booked s (dropPurposes which s) :=
  of_quiet (.dropPurposes which s) (by simp) (by simp) (by simp)

theorem emptyAgenda (s : State) : Booked s (emptyAgenda s) := of_quiet (.emptyAgenda s) (by simp) (by simp) (by simp)

theorem dropSent (s : State) : Booked s (dropSent s) := of_quiet (.dropSent s) (by simp) (by simp) (by simp)

theorem countSent (took : Bool) (s : State) : Booked s (countSent took s) :=
  of_quiet (.countSent took s) (by simp) (by simp) (by simp)

theorem updateWant (s : State) : Booked s (updateWant s) := of_quiet (.updateWant s) (by simp) (by simp) (by simp)

theorem updateDuty (s : State) : Booked s (updateDuty s) := of_quiet (.updateDuty s) (by simp) (by simp) (by simp)

theorem updateBeacon (a b : Bool) (s : State) : Booked s (updateBeacon a b s) :=
  of_quiet (.updateBeacon a b s) (by simp) (by simp) (by simp)

/-! ### The fault queue -/

theorem postFault (k : FaultKind) (a : Option Station) (b : Option Slot) (c : Option Line) (d : Option DepartureCause)
    (s : State) : Booked s (postFault k a b c d s) where
  reacts := .postFault k a b c d s
  grants := by simp
  accounts h := by
    rcases postFault_cases k a b c d s with ⟨hroom, heq⟩ | ⟨-, heq⟩ <;> rw [heq]
    · exact accountsSound_of_same h rfl rfl (by simpa using hroom) rfl rfl rfl
    · exact accountsSound_of_same h rfl rfl h.2.2.1 rfl rfl rfl

theorem postDepartures (ds : List (Station × DepartureCause)) (s : State) : Booked s (postDepartures ds s) :=
  foldl (fun _ _ => postFault _ _ _ _ _ _) _ s

theorem postOwnPlace (a b : Bool) (s : State) : Booked s (postOwnPlace a b s) := by
  rw [postOwnPlace_cases]
  cases a <;> cases b
  · exact refl s
  · exact postFault _ _ _ _ _ s
  · exact postFault _ _ _ _ _ s
  · exact (postFault _ _ _ _ _ s).trans (postFault _ _ _ _ _ _)

theorem postRetryLimit (p : Option Purpose) (s : State) : Booked s (postRetryLimit p s) := by
  cases p
  · exact refl s
  · exact postFault _ _ _ _ _ s

theorem postDuplicate (b : Bool) (s : State) : Booked s (postDuplicate b s) := by
  unfold Machine.postDuplicate
  split
  · exact postFault _ _ _ _ _ s
  · exact refl s

/-! ### The origin unit -/

theorem changeLine (n : Line) (f : LineRecord → LineRecord) (s : State) : Booked s (changeLine n f s) :=
  of_quiet (.changeLine n f s) rfl rfl rfl

theorem changeRaise (id : RaiseId) {f : RaiseRecord → RaiseRecord} (hf : ∀ r, (f r).id = r.id) (s : State) :
    Booked s (changeRaise id f s) := of_quiet (.changeRaise id f s) rfl rfl (changeRaise_ids id hf s)

theorem evaluateLine (n : Line) (s : State) : Booked s (evaluateLine n s) :=
  of_quiet (.evaluateLine n s) (by simp) (by simp) (by simp)

theorem inputChanges (n : Line) (level : Bool) (s : State) : Booked s (inputChanges n level s) :=
  of_quiet (.inputChanges n level s) (by simp) (by simp) (by simp)

/-- A raise record of the list ends with its completion, on its own reservation (R132). -/
theorem raiseEnds {r : RaiseRecord} (hr : r ∈ s.origin.raises) (c : Completion) : Booked s (raiseEnds r.id c s) where
  reacts := .raiseEnds _ c s
  grants := by simp
  accounts h := by
    refine accountsSound_of_posted h 1 rfl (by simp [Machine.raiseEnds, removeRaise]) rfl ?_ (List.filter_sublist.map _)
    have hlen := removeRaise_length h.2.2.2.2 hr
    unfold reservationsDue
    rw [← hlen]
    change _ + _ + (leaveHeld s).toNat + 1 = _
    simp only [Machine.raiseEnds, Machine.postCompletions, removeRaise, State.setPort_claim, State.setPort_origin,
      State.setOrigin_claim, State.setOrigin_origin]
    omega

theorem sourceOffered (x : Source) (h : Handle) (s : State) : Booked s (sourceOffered x h s) := by
  refine of_quiet (.sourceOffered x h s) (by simp) (by simp) ?_
  unfold Machine.sourceOffered
  split
  · split <;> simp
  · refine changeRaise_ids _ ?_ s
    exact fun _ => rfl

theorem sourceClaimed (x : Source) (s : State) : Booked s (sourceClaimed x s) := by
  unfold Machine.sourceClaimed
  split
  · exact changeLine _ _ s
  · refine changeRaise _ ?_ s
    exact fun _ => rfl

theorem sourceReturned (x : Source) (s : State) : Booked s (sourceReturned x s) := by
  refine of_quiet (.sourceReturned x s) (by simp) (by simp) ?_
  cases x
  · simp [Machine.sourceReturned]
  · refine changeRaise_ids _ ?_ s
    exact fun _ => rfl

/-- A source with a record of its own here. -/
def HasRecord (s : State) : Source → Prop
  | .line _ => True
  | .raise id => ∃ r ∈ s.origin.raises, r.id = id

theorem hasRecord_of_holderOf {h : Handle} {x : Source} (hx : holderOf s h = some x) : HasRecord s x := by
  cases x with
  | line n => trivial
  | raise id =>
    unfold holderOf at hx
    split at hx
    · cases hx
    · obtain ⟨r, hr, heq⟩ := Option.map_eq_some_iff.mp hx
      cases heq
      exact ⟨r, List.mem_of_find?_eq_some hr, rfl⟩

theorem sourceRetires {x : Source} (hx : HasRecord s x) : Booked s (sourceRetires x s) := by
  cases x with
  | line n =>
    change Booked s (rearmLine n s)
    exact of_quiet (.rearmLine n s) (by simp) (by simp) (by simp)
  | raise id =>
    obtain ⟨r, hr, rfl⟩ := hx
    exact raiseEnds hr _

theorem sourceWithdrawn (x : Source) (s : State) : Booked s (sourceWithdrawn x s) := by
  refine of_quiet (.sourceWithdrawn x s) (by simp) (by simp) ?_
  cases x
  · simp [Machine.sourceWithdrawn]
  · rfl

theorem sourceDropped {x : Source} (hx : HasRecord s x) (h : Handle) : Booked s (sourceDropped x h s) := by
  cases x with
  | line n => exact (changeLine _ _ s).trans (postFault _ _ _ _ _ _)
  | raise id =>
    obtain ⟨r, hr, rfl⟩ := hx
    exact raiseEnds hr _

theorem originReacts (sent : Option Sent) (s : State) (c : EntryChange) : Booked s (originReacts sent s c) := by
  unfold Machine.originReacts
  dsimp only
  split
  · split
    · split
      · exact sourceOffered _ _ s
      · exact refl s
    · split
      · exact refl s
      · rename_i x hx
        have hrec := hasRecord_of_holderOf hx
        split
        · exact sourceClaimed _ s
        · exact sourceReturned _ s
        · exact sourceReturned _ s
        · exact sourceRetires hrec
        · exact sourceWithdrawn _ s
        · exact sourceDropped hrec _
        all_goals exact refl s
  · exact refl s

theorem originReacts_all (sent : Option Sent) (cs : List EntryChange) (s : State) :
    Booked s (cs.foldl (Machine.originReacts sent) s) := foldl (originReacts sent) cs s

theorem offerRaise (s : State) (r : RaiseRecord) : Booked s (offerRaise s r) :=
  of_quiet (.offerRaise s r) (by simp) (by simp) (by simp)

theorem originEnters (s : State) : Booked s (originEnters s) :=
  (foldl offerRaise _ s).trans (foldl (fun u n => evaluateLine n u) _ _)

theorem stopServiceTimers (s : State) : Booked s (stopServiceTimers s) :=
  of_quiet (.stopServiceTimers s) (by simp) (by simp) (by simp [Machine.stopServiceTimers, Function.comp_def])

end Booked

end Sys2Proof.Machine
end


section
/-! What holds of the station beside its place and its request line, and what keeps it: the copy, what the bus
observes, the agenda, the accounts and the grant list. -/

set_option Elab.async false

namespace Sys2Proof.Machine

/-! ### The grant list (R141) -/

/-- The conditions on the grant list, which read the handles of its records alone. -/
structure HandlesSound (s : State) (hs : List Handle) : Prop where
  room : hs.length ≤ s.port.store.d
  flight : claimInFlight s = true → hs.length < s.port.store.d ∧ s.port.store.locked = true
  slots : (hs.map Handle.slot).Nodup
  claimed : s.judging → ∀ r ∈ s.record, ∀ h ∈ hs,
    ∃ e ∈ r.entries, e.slot = h.slot ∧ e.tag = h.tag ∧ e.claimant = some s.number
  place : hs ≠ [] → s.control.state = .member ∨ s.control.state = .leaving ∨ s.control.state = .departing

theorem grantsSound_iff {s : State} : GrantsSound s ↔ HandlesSound s (s.claim.grants.map Grant.handle) := by
  constructor
  · rintro ⟨hroom, hflight, hslots, hclaimed, hplace⟩
    refine ⟨by simpa using hroom, by simpa using hflight, by simpa [Function.comp_def] using hslots, ?_,
      by simpa using hplace⟩
    simpa using hclaimed
  · rintro ⟨hroom, hflight, hslots, hclaimed, hplace⟩
    refine ⟨by simpa using hroom, by simpa using hflight, by simpa [Function.comp_def] using hslots, ?_,
      by simpa using hplace⟩
    simpa using hclaimed

/-- The grant list is sound where it is empty. -/
theorem handlesSound_nil {s : State}
    (hflight : claimInFlight s = true → 0 < s.port.store.d ∧ s.port.store.locked = true) : HandlesSound s [] where
  room := Nat.zero_le _
  flight := hflight
  slots := List.nodup_nil
  claimed _ _ _ _ hh := absurd hh List.not_mem_nil
  place h := absurd rfl h

theorem HandlesSound.flight_nil {s : State} {hs : List Handle} (h : HandlesSound s hs) :
    claimInFlight s = true → 0 < s.port.store.d ∧ s.port.store.locked = true :=
  fun hc => ⟨Nat.lt_of_le_of_lt (Nat.zero_le _) (h.flight hc).1, (h.flight hc).2⟩

/-- What bears on the grant list stays, or the station leaves the states in which it judges. -/
theorem grantsSound_of_handles {s t : State} (h : GrantsSound s)
    (hgrants : t.claim.grants.map Grant.handle = s.claim.grants.map Grant.handle)
    (hflight : claimInFlight t = claimInFlight s) (hstore : t.port.store = s.port.store) (hnumber : t.number = s.number)
    (hjudging : t.judging → s.judging ∧ t.record = s.record)
    (hplace : s.claim.grants ≠ [] → t.control.state = .member ∨ t.control.state = .leaving ∨
      t.control.state = .departing) : GrantsSound t := by
  have h' := grantsSound_iff.mp h
  rw [grantsSound_iff, hgrants]
  refine ⟨by rw [hstore]; exact h'.room, by rw [hflight, hstore]; exact h'.flight, h'.slots, fun hj r hr => ?_,
    fun hne => hplace (by simpa using hne)⟩
  obtain ⟨hsj, hrecord⟩ := hjudging hj
  rw [hnumber]
  exact h'.claimed hsj r (hrecord ▸ hr)

theorem grantsSound_of_same {s t : State} (h : GrantsSound s)
    (hgrants : t.claim.grants.map Grant.handle = s.claim.grants.map Grant.handle)
    (hflight : claimInFlight t = claimInFlight s) (hstore : t.port.store = s.port.store) (hnumber : t.number = s.number)
    (hstate : t.control.state = s.control.state) (hrecord : t.record = s.record) : GrantsSound t := by
  refine grantsSound_of_handles h hgrants hflight hstore hnumber (fun hj => ⟨?_, hrecord⟩) ?_
  · unfold State.judging at hj
    rw [hstate] at hj
    exact hj
  · rw [hstate]
    exact h.2.2.2.2

/-- An emptied grant list. -/
theorem grantsSound_emptied {s t : State} (h : GrantsSound s) (hgrants : t.claim.grants = [])
    (hflight : claimInFlight t = claimInFlight s) (hstore : t.port.store = s.port.store) : GrantsSound t := by
  rw [grantsSound_iff, hgrants]
  refine handlesSound_nil ?_
  rw [hflight, hstore]
  exact (grantsSound_iff.mp h).flight_nil

/-- Outside MEMBER, LEAVING and DEPARTING no grant is held. -/
theorem grants_eq_nil {s : State} (h : GrantsSound s)
    (hs : ¬(s.control.state = .member ∨ s.control.state = .leaving ∨ s.control.state = .departing)) :
    s.claim.grants = [] := by
  by_contra hne
  exact hs (h.2.2.2.2 hne)

theorem claimInFlight_congr {s t : State} (h : t.bus.attempt = s.bus.attempt) :
    claimInFlight t = claimInFlight s := by
  unfold claimInFlight
  rw [h]

/-! ### All of it beside the place and the request line -/

/-- What holds of the station beside its place, its request line, its sent purpose and its accounts. -/
structure Steady (s : State) : Prop where
  copy : RecordSound s
  observing : Observing s
  agenda : AgendaSound s
  grants : GrantsSound s

/-- What holds of the station beside its place and its request line. -/
structure Running (s : State) : Prop extends Steady s where
  sent : SentGoesWith s
  accounts : AccountsSound s

theorem sound_iff {s : State} : Sound s ↔ Placed s ∧ LineFollows s ∧ Running s := by
  constructor
  · rintro ⟨hrecord, hplace, hrequest, hagenda, haccounts, hgrants⟩
    obtain ⟨hline, hobs, hsent⟩ := requestSound_iff.mp hrequest
    exact ⟨placeSound_iff.mp hplace, hline, ⟨hrecord, hobs, hagenda, hgrants⟩, hsent, haccounts⟩
  · rintro ⟨hplace, hline, ⟨hrecord, hobs, hagenda, hgrants⟩, hsent, haccounts⟩
    exact ⟨hrecord, placeSound_iff.mpr hplace, requestSound_iff.mpr ⟨hline, hobs, hsent⟩, hagenda, haccounts, hgrants⟩

/-! ### Changes of station state -/

theorem claimInFlight_changeState (new : StationState) (s : State) :
    claimInFlight (changeState new s) = claimInFlight s := by
  by_cases hoff : new = .offline ∨ new = .isolated
  · unfold claimInFlight
    rw [changeState_bus_off s hoff]
    cases ha : s.bus.attempt with
    | none => rw [Observing.stopObserving_bus_none ha, ha]
    | some a => rw [Observing.stopObserving_bus_some ha]; rfl
  · push Not at hoff
    by_cases hl : new = .listen
    · subst hl
      exact claimInFlight_congr (by rw [changeState_bus_listen])
    · exact claimInFlight_congr (by rw [changeState_bus s ⟨hoff.1, hoff.2, hl⟩])

@[simp] theorem originEnters_raises (s : State) : (originEnters s).origin.raises = s.origin.raises := by
  have hline : ∀ u (n : Line), (evaluateLine n u).origin.raises = u.origin.raises := fun u n => evaluateLine_raises n u
  have hraise : ∀ u r, (offerRaise u r).origin.raises = u.origin.raises := fun u r => by simp
  unfold originEnters
  rw [foldl_keeps (f := fun u n => evaluateLine n u) (g := fun u : State => u.origin.raises) hline,
    foldl_keeps (g := fun u : State => u.origin.raises) hraise]

/-- A change of station state keeps the raise list but for the service timers. -/
theorem changeState_ids (new : StationState) (s : State) :
    (changeState new s).origin.raises.map RaiseRecord.id = s.origin.raises.map RaiseRecord.id := by
  by_cases hm : new = .member
  · subst hm
    rw [changeState_member]
    simp
  · by_cases hd : new = .departing
    · subst hd
      rw [changeState_origin_departing]
      simp [stopServiceTimers, Function.comp_def]
    · rw [changeState_origin s ⟨hm, hd⟩]

theorem accountsSound_changeState {s : State} (new : StationState) (h : AccountsSound s)
    (hleave : leaveHeld (changeState new s) = leaveHeld s) : AccountsSound (changeState new s) := by
  obtain ⟨-, -, hclaim, hport, -⟩ := changeState_frame new s
  exact accountsSound_of_same h (by rw [hport]) (by rw [hport]) (by rw [hport]; exact h.2.2.1) (changeState_ids new s)
    (by rw [hclaim]) hleave

/-- A LEAVE is held in LEAVING and in DEPARTING alone. -/
theorem leaveHeld_eq_false {s : State} (hc : s.control.Fits)
    (hs : s.control.state ≠ .leaving ∧ s.control.state ≠ .departing) : leaveHeld s = false := by
  have hcause : s.control.cause = none := by
    rw [← Option.not_isSome_iff_eq_none, hc.cause]
    exact hs.2
  simp [leaveHeld, hcause, hs.1]

/-- After a change of state a LEAVE is held in LEAVING alone; a cause is held in DEPARTING alone, and goes on leaving. -/
theorem leaveHeld_changeState {s : State} (hc : s.control.cause.isSome → s.control.state = .departing)
    (new : StationState) : leaveHeld (changeState new s) = (new == .leaving) := by
  have hleft : (leftControl s.control).cause = none := by
    unfold leftControl
    cases hs : s.control.state <;> simp_all
  have hcause : (changeState new s).control.cause = none := by
    rw [changeState_control]
    cases new <;> exact hleft
  simp [leaveHeld, hcause]

/-- A change of state from one without a held LEAVE into one without keeps the accounts. -/
theorem accountsSound_changeState_of {s u : State} (h : AccountsSound u)
    (hc : s.control.cause.isSome → s.control.state = .departing)
    (hcause : u.control.cause = s.control.cause) (hstate : u.control.state = s.control.state)
    (hs : s.control.state ≠ .leaving ∧ s.control.state ≠ .departing) {new : StationState} (hnew : new ≠ .leaving) :
    AccountsSound (changeState new u) := by
  refine accountsSound_changeState new h ?_
  rw [leaveHeld_changeState (by rw [hcause, hstate]; exact hc)]
  have hnone : s.control.cause = none := Option.not_isSome_iff_eq_none.mp fun hsome => hs.2 (hc hsome)
  have hfalse : leaveHeld u = false := by simp [leaveHeld, hcause, hstate, hnone, hs.1]
  rw [hfalse]
  exact beq_eq_false_iff_ne.mpr hnew

theorem leaveHeld_enterDeparting (c : DepartingCause) (s : State) :
    leaveHeld (enterDeparting c s) = (c == .leave) := by
  unfold leaveHeld
  rw [enterDeparting_control]
  cases c <;> rfl

theorem sentGoesWith_enterDeparting {s : State} (h : SentGoesWith s) (c : DepartingCause) :
    SentGoesWith (enterDeparting c s) := by
  obtain ⟨-, hbus, -, hagenda, -⟩ := enterDeparting_frame c s
  exact sentGoesWith_of_same h (by rw [hbus]) (by rw [hagenda])

theorem sentGoesWith_listenWithBackoff {s : State} (h : SentGoesWith s) : SentGoesWith (listenWithBackoff s) :=
  sentGoesWith_changeState (s := startBackoff .listen s) (sentGoesWith_of_same h rfl rfl) .listen

theorem notOff_of_judging {s : State} (h : s.judging) : ¬s.off := by
  unfold State.judging at h
  unfold State.off
  rcases h with h | h | h <;> simp [h]

namespace Steady

variable {s t : State}

/-- The blocks that bear on it stay, but for the grants' states. -/
theorem of_same (h : Steady s) (hnumber : t.number = s.number) (hbus : t.bus = s.bus) (hrecord : t.record = s.record)
    (hagenda : t.agenda = s.agenda) (hstate : t.control.state = s.control.state)
    (hgrants : t.claim.grants.map Grant.handle = s.claim.grants.map Grant.handle)
    (hstore : t.port.store = s.port.store) : Steady t where
  copy := recordSound_of_same h.copy hrecord
  observing := h.observing.of_blocks hbus hstate (by rw [hagenda])
  agenda := agendaSound_of_same h.agenda (by rw [hagenda]) (by rw [hagenda]) (by rw [hstore])
  grants := grantsSound_of_same h.grants hgrants (claimInFlight_congr (by rw [hbus])) hstore hnumber hstate hrecord

theorem of_reacts (h : Steady s) (r : Reacts s t) (hgrants : t.claim.grants = s.claim.grants) : Steady t where
  copy := recordSound_of_same h.copy r.record
  observing := h.observing.of_reacts r
  agenda := r.sound h.agenda
  grants := grantsSound_of_same h.grants (by rw [hgrants]) (claimInFlight_congr (by rw [r.bus])) r.host.store
    r.host.number (by rw [r.control]) r.record

/-- A change of state, by what it makes of observing and of the grants. -/
theorem changeState (h : Steady s) {new : StationState} (hobs : Observing (changeState new s))
    (hgrants : GrantsSound (Machine.changeState new s)) : Steady (Machine.changeState new s) where
  copy := recordSound_of_same h.copy (changeState_frame new s).2.1
  observing := hobs
  agenda := agendaSound_changeState new h.agenda
  grants := hgrants

theorem grants_changeState_nil (h : Steady s) (hnil : s.claim.grants = []) (new : StationState) :
    GrantsSound (Machine.changeState new s) := by
  obtain ⟨-, -, hclaim, hport, -⟩ := changeState_frame new s
  exact grantsSound_emptied h.grants (by rw [hclaim]; exact hnil) (claimInFlight_changeState new s) (by rw [hport])

/-- The grants stay with a change of state within the group. -/
theorem grants_changeState_group (h : Steady s) (hs : s.judging) {new : StationState}
    (hnew : new = .leaving ∨ new = .departing) : GrantsSound (Machine.changeState new s) := by
  obtain ⟨hnumber, hrecord, hclaim, hport, -⟩ := changeState_frame new s
  refine grantsSound_of_handles h.grants (by rw [hclaim]) (claimInFlight_changeState new s) (by rw [hport]) hnumber
    (fun _ => ⟨hs, hrecord⟩) (fun _ => ?_)
  rw [changeState_state]
  exact .inr hnew

/-- A change of state on the bus at a station without grants. -/
theorem changeState_on (h : Steady s) (hoff : ¬s.off) (hnil : s.claim.grants = []) {new : StationState}
    (hnew : new ≠ .offline ∧ new ≠ .isolated) : Steady (Machine.changeState new s) :=
  h.changeState (h.observing.changeState hoff hnew) (h.grants_changeState_nil hnil new)

/-- Going off the bus at a station without grants. -/
theorem changeState_off (h : Steady s) (hnil : s.claim.grants = []) {new : StationState}
    (hnew : new = .offline ∨ new = .isolated) : Steady (Machine.changeState new s) :=
  h.changeState (h.observing.changeState_off hnew) (h.grants_changeState_nil hnil new)

/-- From off the bus to LISTEN: the bus must first be found at rest (R24). -/
theorem listenFromOff (h : Steady s) (hoff : s.off) (hnil : s.claim.grants = []) :
    Steady (Machine.changeState .listen (startObserving s)) where
  copy := recordSound_of_same h.copy (changeState_frame .listen _).2.1
  observing := h.observing.startObserving hoff rfl rfl
  agenda := agendaSound_changeState (s := startObserving s) .listen (agendaSound_of_same h.agenda rfl rfl rfl)
  grants := by
    obtain ⟨-, -, hclaim, hport, -⟩ := changeState_frame .listen (startObserving s)
    exact grantsSound_emptied h.grants (by rw [hclaim]; exact hnil)
      ((claimInFlight_changeState .listen _).trans (claimInFlight_congr rfl)) (by rw [hport]; rfl)

theorem enterDeparting (h : Steady s) (hj : s.judging) (c : DepartingCause) : Steady (enterDeparting c s) :=
  (h.changeState (h.observing.changeState (notOff_of_judging hj) (by decide))
    (h.grants_changeState_group hj (.inr rfl))).of_same rfl rfl rfl rfl rfl rfl rfl

theorem listenWithBackoff (h : Steady s) (hoff : ¬s.off) (hnil : s.claim.grants = []) : Steady (listenWithBackoff s) :=
  (show Steady (Machine.startBackoff .listen s) from h.of_same rfl rfl rfl rfl rfl rfl rfl).changeState_on hoff hnil
    (by decide)

theorem startBackoff (h : Steady s) (f : FollowOn) : Steady (startBackoff f s) := h.of_same rfl rfl rfl rfl rfl rfl rfl

end Steady

namespace Running

variable {s t : State}

/-- The blocks that bear on it stay; of the port the queues, the reservations and the store. -/
theorem of_same (h : Running s) (hnumber : t.number = s.number) (hbus : t.bus = s.bus) (hrecord : t.record = s.record)
    (hagenda : t.agenda = s.agenda) (hcontrol : t.control = s.control) (horigin : t.origin.raises = s.origin.raises)
    (hgrants : t.claim.grants = s.claim.grants) (hstore : t.port.store = s.port.store)
    (hreserved : t.port.reserved = s.port.reserved) (hcompletions : t.port.completions = s.port.completions)
    (hfaults : t.port.faults = s.port.faults) : Running t where
  toSteady := h.toSteady.of_same hnumber hbus hrecord hagenda (by rw [hcontrol]) (by rw [hgrants]) hstore
  sent := sentGoesWith_of_same h.sent (by rw [hbus]) (by rw [hagenda])
  accounts := accountsSound_of_same h.accounts hreserved hcompletions (by rw [hfaults]; exact h.accounts.2.2.1)
    (by rw [horigin]) hgrants (leaveHeld_congr hcontrol)

theorem of_booked (h : Running s) (b : Booked s t) : Running t :=
  ⟨h.toSteady.of_reacts b.reacts b.grants, sentGoesWith_of_same h.sent (by rw [b.reacts.bus]) b.reacts.sent,
    b.accounts h.accounts⟩

/-- The membership controller changes within its state, and a held LEAVE stays held. -/
theorem of_control (h : Running s) {c : Control} (hstate : c.state = s.control.state) (hcause : c.cause = s.control.cause) :
    Running (s.setControl c) where
  toSteady := h.toSteady.of_same rfl rfl rfl rfl hstate rfl rfl
  sent := sentGoesWith_of_same h.sent rfl rfl
  accounts := accountsSound_of_same h.accounts rfl rfl h.accounts.2.2.1 rfl rfl (by
    unfold leaveHeld
    rw [State.setControl_control, hstate, hcause])

end Running

end Sys2Proof.Machine
end


section
/-! The host's commands keep the station sound (R12, R84, R141, R158, R159, R161). -/

set_option Elab.async false

namespace Sys2Proof.Machine

/-! ### The request line -/

theorem lineFollows_of_same {s t : State} (h : LineFollows s) (hbus : t.bus = s.bus) (hwants : wantsBus t = wantsBus s) :
    LineFollows t := by
  unfold LineFollows sending at *
  rw [hbus, hwants]
  exact h

theorem wantsBus_nil {s : State} (h : s.agenda.purposes = []) : wantsBus s = false := by
  unfold wantsBus
  rw [h]
  rfl

namespace Steady

theorem updateRequest {s : State} (h : Steady s) : Steady (updateRequest s) where
  copy := recordSound_of_same h.copy rfl
  observing := h.observing.of_same Iff.rfl rfl rfl rfl rfl
  agenda := agendaSound_of_same h.agenda rfl rfl rfl
  grants := grantsSound_of_same h.grants rfl rfl rfl rfl rfl rfl

end Steady

/-- Working out the request line anew makes a station sound that is so beside it. -/
theorem sound_updateRequest {s : State} (hp : Placed s) (h : Running s) : Sound (updateRequest s) :=
  sound_iff.mpr ⟨hp.updateRequest, lineFollows_updateRequest s, h.toSteady.updateRequest,
    sentGoesWith_of_same h.sent rfl rfl, accountsSound_of_same h.accounts rfl rfl h.accounts.2.2.1 rfl rfl rfl⟩

/-- A change of the window, the enables, the clock or the STATE cause alone. -/
theorem sound_setPort {s : State} (h : Sound s) {p : Port} (hstore : p.store = s.port.store)
    (hreserved : p.reserved = s.port.reserved) (hcompletions : p.completions = s.port.completions)
    (hfaults : p.faults = s.port.faults) : Sound (s.setPort p) := by
  obtain ⟨hplace, hline, hrun⟩ := sound_iff.mp h
  exact sound_iff.mpr ⟨hplace.of_blocks rfl rfl rfl hstore,
    lineFollows_of_same hline rfl (wantsBus_congr rfl rfl rfl rfl rfl rfl rfl (by rw [← hstore]; rfl)),
    hrun.of_same rfl rfl rfl rfl rfl rfl rfl hstore hreserved hcompletions hfaults⟩

theorem sound_answerHost {s : State} (h : Sound s) (a b c d : Word32) : Sound (answerHost a b c d s) :=
  sound_setPort h rfl rfl rfl rfl

theorem sound_answerCode {s : State} (h : Sound s) (a : Word32) : Sound (answerCode a s) := sound_answerHost h a 0 0 0

/-! ### SET and START -/

theorem setItem_queues (i x v : Nat) (s : State) :
    (setItem i x v s).port.reserved = s.port.reserved ∧ (setItem i x v s).port.completions = s.port.completions ∧
      (setItem i x v s).port.faults = s.port.faults ∧ (setItem i x v s).origin.raises = s.origin.raises ∧
      (setItem i x v s).claim.grants = s.claim.grants := by
  unfold setItem
  split <;> simp [setStore, setLine, setFilter]

theorem setItem_l {i x v : Nat} (h : setInRange i x v = true) {s : State} (hl : 1 ≤ s.port.store.l) :
    1 ≤ (setItem i x v s).port.store.l := by
  unfold setItem
  split
  case h_3 => exact (of_decide_eq_true h).1
  all_goals exact hl

/-- Off the bus the agenda is empty and no grant is held, so SET may change L and D there. -/
theorem sound_setItem {i x v : Nat} {s : State} (h : Sound s) (hoff : s.control.state = .offline)
    (hlock : s.port.store.locked = false) (hrange : setInRange i x v = true) : Sound (setItem i x v s) := by
  obtain ⟨hplace, hline, hrun⟩ := sound_iff.mp h
  obtain ⟨hnumber, hbus, hrecord, hagenda, hcontrol, -⟩ := setItem_frame i x v s
  obtain ⟨hreserved, hcompletions, hfaults, hraises, hgrants⟩ := setItem_queues i x v s
  have hpurposes : s.agenda.purposes = [] := purposesFit_eq_nil hplace.purposes (by rw [hoff]; exact fun _ => rfl)
  have hnil : s.claim.grants = [] := grants_eq_nil hrun.grants (by rw [hoff]; decide)
  have hflight : claimInFlight s ≠ true := fun hf => by
    have := (hrun.grants.2.1 hf).2
    rw [hlock] at this
    exact absurd this (by decide)
  refine sound_iff.mpr ⟨⟨?_, ?_, ?_, ?_⟩, lineFollows_of_same hline hbus ?_, ⟨?_, ?_, ?_, ?_⟩, ?_, ?_⟩
  · rw [hrecord, hcontrol]
    exact hplace.record
  · rw [hcontrol]
    exact hplace.control
  · unfold PurposesFit
    rw [hagenda, hcontrol]
    exact hplace.purposes
  · rw [hcontrol, hoff]
    exact fun hne => absurd rfl hne
  · rw [wantsBus_nil hpurposes, wantsBus_nil (by rw [hagenda]; exact hpurposes)]
  · exact recordSound_of_same hrun.copy hrecord
  · exact hrun.observing.of_blocks hbus (by rw [hcontrol]) (by rw [hagenda])
  · exact agendaSound_nil (by rw [hagenda]; exact hpurposes) (setItem_l hrange hrun.agenda.2.2)
  · rw [grantsSound_iff, hgrants, hnil]
    exact handlesSound_nil fun hf => absurd ((claimInFlight_congr (by rw [hbus])).symm.trans hf) hflight
  · exact sentGoesWith_of_same hrun.sent (by rw [hbus]) (by rw [hagenda])
  · exact accountsSound_of_same hrun.accounts hreserved hcompletions (by rw [hfaults]; exact hrun.accounts.2.2.1)
      (by rw [hraises]) hgrants (leaveHeld_congr hcontrol)

/-! ### A held LEAVE and its reservation (R157) -/

/-- Where only a held LEAVE has changed, so have the reservations due. -/
theorem reservationsDue_leave {s t : State}
    (hraises : t.origin.raises.map RaiseRecord.id = s.origin.raises.map RaiseRecord.id)
    (hgrants : t.claim.grants = s.claim.grants) :
    reservationsDue t + (leaveHeld s).toNat = reservationsDue s + (leaveHeld t).toNat := by
  have hlen : t.origin.raises.length = s.origin.raises.length := by simpa using congrArg List.length hraises
  unfold reservationsDue
  rw [hlen, hgrants]
  omega

/-- A LEAVE that ends with its completion (R157). -/
theorem accountsSound_leaveEnded {s t : State} (h : AccountsSound s) (hheld : leaveHeld s = true)
    (hended : leaveHeld t = false) (c : Completion)
    (hport : t.port.reserved = s.port.reserved - 1 ∧ t.port.completions = s.port.completions ++ [c] ∧
      t.port.faults = s.port.faults)
    (hraises : t.origin.raises.map RaiseRecord.id = s.origin.raises.map RaiseRecord.id)
    (hgrants : t.claim.grants = s.claim.grants) : AccountsSound t := by
  obtain ⟨hreserved, hcompletions, hfaults⟩ := hport
  have hdue := reservationsDue_leave hraises hgrants
  rw [hheld, hended] at hdue
  exact accountsSound_of_posted h 1 hreserved (by rw [hcompletions, List.length_append]; rfl) hfaults hdue
    (by rw [hraises])

/-- A LEAVE taken on a reservation (R157). -/
theorem accountsSound_leaveTaken {s t : State} (h : AccountsSound s) (hfree : freeReservations s ≠ 0)
    (hnot : leaveHeld s = false) (hheld : leaveHeld t = true)
    (hport : t.port.reserved = s.port.reserved + 1 ∧ t.port.completions = s.port.completions ∧
      t.port.faults = s.port.faults)
    (hraises : t.origin.raises.map RaiseRecord.id = s.origin.raises.map RaiseRecord.id)
    (hgrants : t.claim.grants = s.claim.grants) : AccountsSound t := by
  obtain ⟨hreserved, hcompletions, hfaults⟩ := hport
  have hdue := reservationsDue_leave hraises hgrants
  have hlen : t.origin.raises.length = s.origin.raises.length := by simpa using congrArg List.length hraises
  rw [hheld, hnot] at hdue
  exact accountsSound_of_reserved h hfree hreserved hcompletions hfaults hdue (by rw [hlen]; exact h.2.2.2.1)
    (by rw [hraises]; exact h.2.2.2.2)

theorem enterDeparting_ids (c : DepartingCause) (s : State) :
    (enterDeparting c s).origin.raises.map RaiseRecord.id = s.origin.raises.map RaiseRecord.id :=
  changeState_ids .departing s

theorem accountsSound_enterDeparting {s : State} (h : AccountsSound s) {c : DepartingCause}
    (hleave : leaveHeld s = (c == .leave)) : AccountsSound (enterDeparting c s) := by
  obtain ⟨-, -, -, -, hclaim, hport, -, -⟩ := enterDeparting_frame c s
  exact accountsSound_of_same h (by rw [hport]) (by rw [hport]) (by rw [hport]; exact h.2.2.1) (enterDeparting_ids c s)
    (by rw [hclaim]) ((leaveHeld_enterDeparting c s).trans hleave.symm)

namespace Running

variable {s : State}

/-- The store is locked (R156). -/
theorem locks (h : Running s) : Running (setStore (fun c => { c with locked := true }) s) where
  copy := recordSound_of_same h.copy rfl
  observing := h.observing.of_blocks rfl rfl rfl
  sent := sentGoesWith_of_same h.sent rfl rfl
  agenda := agendaSound_of_same h.agenda rfl rfl rfl
  grants := ⟨h.grants.1, fun hf => ⟨(h.grants.2.1 hf).1, rfl⟩, h.grants.2.2⟩
  accounts := accountsSound_of_same h.accounts rfl rfl h.accounts.2.2.1 rfl rfl rfl

theorem noGrants (h : Running s) {x : StationState} (hs : s.control.state = x)
    (hx : x ≠ .member ∧ x ≠ .leaving ∧ x ≠ .departing) : s.claim.grants = [] :=
  grants_eq_nil h.grants (by rw [hs]; tauto)

end Running

namespace Sound

variable {s : State}

theorem placed (h : Sound s) : Placed s := (sound_iff.mp h).1
theorem running (h : Sound s) : Running s := (sound_iff.mp h).2.2

theorem takeCommand (h : Sound s) (code : Word32) : Sound (takeCommand code s) := sound_setPort h rfl rfl rfl rfl

theorem commandSet (h : Sound s) : Sound (commandSet s) := by
  unfold Machine.commandSet
  split
  · exact sound_answerCode h _
  · rename_i hrange
    split
    · exact sound_answerCode h _
    · rename_i hset
      push Not at hset
      exact sound_answerCode (sound_setItem h hset.1 (by simpa using hset.2) (by simpa using hrange)) _

theorem commandStart (h : Sound s) : Sound (commandStart s) := by
  unfold Machine.commandStart
  split
  · exact sound_answerCode h _
  · rename_i hoff
    push Not at hoff
    split
    · exact sound_answerCode h _
    · rename_i hok
      have hcommand : Machine.commandStart s = answerCode codeAccepted
          (changeState .listen (startObserving (setStore (fun c => { c with locked := true }) s))) :=
        (if_neg (not_not.mpr hoff)).trans (if_neg hok)
      have hplaced : Placed
          (changeState .listen (startObserving (setStore (fun c => { c with locked := true }) s))) := by
        have := h.placed.commandStart
        rw [hcommand] at this
        exact this.of_blocks rfl rfl rfl rfl
      have hlocked := h.running.locks
      have hnil := h.running.noGrants hoff (by decide)
      refine sound_answerCode (sound_iff.mpr ⟨hplaced, ?_,
        hlocked.toSteady.listenFromOff (.inl hoff) hnil,
        sentGoesWith_changeState (s := startObserving (setStore _ s)) (sentGoesWith_of_same hlocked.sent rfl rfl) _, ?_⟩) _
      · have hpurposes : s.agenda.purposes = [] := purposesFit_eq_nil h.placed.purposes (by rw [hoff]; exact fun _ => rfl)
        have hrest := (hlocked.observing.off (.inl hoff)).1
        have hrequest := (sound_iff.mp h).2.1
        unfold LineFollows at hrequest ⊢
        rw [wantsBus_nil hpurposes, Bool.and_false] at hrequest
        rw [wantsBus_nil (by rw [changeState_agenda_listen]; exact leaveState_purposes_nil hpurposes), Bool.and_false,
          changeState_bus_listen]
        exact hrequest
      · refine accountsSound_changeState_of (u := startObserving (setStore _ s)) (new := .listen) ?_ h.placed.control.cause.mp rfl rfl (by rw [hoff]; decide) (by decide)
        exact accountsSound_of_same hlocked.accounts rfl rfl hlocked.accounts.2.2.1 rfl rfl rfl

/-! ### RESTART -/

theorem restartFrom (h : Sound s) (hoff : s.control.state ≠ .offline) : Running (restartFrom s) := by
  have hrun := h.running
  have hc := h.placed.control
  have hnote : Running (s.setControl { s.control with note := none }) := hrun.of_control rfl rfl
  unfold Machine.restartFrom
  cases hstate : s.control.state
  case offline => exact absurd hstate hoff
  case member | syncing =>
    exact ⟨hrun.toSteady.enterDeparting (by simp [State.judging, hstate]) _, sentGoesWith_enterDeparting hrun.sent _,
      accountsSound_enterDeparting hrun.accounts (leaveHeld_eq_false hc (by rw [hstate]; decide))⟩
  case leaving =>
    refine ⟨(hrun.toSteady.of_reacts (.postCompletions _ s) (by simp)).enterDeparting ?_ _,
      sentGoesWith_enterDeparting (s := postCompletions _ s) (sentGoesWith_of_same hrun.sent rfl rfl) _, ?_⟩
    · simp [State.judging, hstate]
    · obtain ⟨-, -, -, -, hclaim, hport, -, -⟩ := enterDeparting_frame .restart (postCompletions [.leaveAbandoned] s)
      exact accountsSound_leaveEnded hrun.accounts (by simp [leaveHeld, hstate]) (leaveHeld_enterDeparting _ _) _
        (by rw [hport]; exact ⟨rfl, rfl, rfl⟩) (enterDeparting_ids _ _) (by rw [hclaim]; rfl)
  case departing =>
    by_cases hcause : s.control.cause = some .leave
    · rw [if_pos hcause]
      refine ⟨(hrun.toSteady.of_reacts (.postCompletions _ s) (by simp)).of_same rfl rfl rfl rfl rfl rfl rfl,
        sentGoesWith_of_same hrun.sent rfl rfl, ?_⟩
      exact accountsSound_leaveEnded hrun.accounts (by simp [leaveHeld, hcause]) (by simp [leaveHeld, hstate]) _
        ⟨rfl, rfl, rfl⟩ rfl rfl
    · rw [if_neg hcause]
      refine ⟨hrun.toSteady.of_same rfl rfl rfl rfl rfl rfl rfl, sentGoesWith_of_same hrun.sent rfl rfl, ?_⟩
      exact accountsSound_of_same hrun.accounts rfl rfl hrun.accounts.2.2.1 rfl rfl
        (by simp [leaveHeld, hstate, beq_eq_false_iff_ne.mpr hcause])
  case isolated =>
    have hwait := hnote.toSteady.startBackoff .listen
    refine ⟨hwait.listenFromOff (.inr hstate) (hrun.noGrants hstate (by decide)),
      sentGoesWith_listenWithBackoff (s := startObserving (s.setControl { s.control with note := none }))
        (sentGoesWith_of_same hrun.sent rfl rfl), ?_⟩
    refine accountsSound_changeState_of (u := Machine.startBackoff .listen (startObserving (s.setControl { s.control with note := none })))
      (new := .listen) ?_ hc.cause.mp rfl rfl (by rw [hstate]; decide) (by decide)
    exact accountsSound_of_same hnote.accounts rfl rfl hnote.accounts.2.2.1 rfl rfl rfl
  case listen | founding | joining =>
    have hwait := hnote.toSteady.startBackoff .listen
    refine ⟨hwait.changeState_on ?_ (hrun.noGrants hstate (by decide)) (by decide),
      sentGoesWith_listenWithBackoff (s := s.setControl { s.control with note := none })
        (sentGoesWith_of_same hrun.sent rfl rfl), ?_⟩
    · simp [State.off, Machine.startBackoff, hstate]
    · refine accountsSound_changeState_of (u := Machine.startBackoff .listen (s.setControl { s.control with note := none }))
        (new := .listen) ?_ hc.cause.mp rfl rfl (by rw [hstate]; decide) (by decide)
      exact accountsSound_of_same hnote.accounts rfl rfl hnote.accounts.2.2.1 rfl rfl rfl

theorem commandRestart (h : Sound s) : Sound (commandRestart s) := by
  unfold Machine.commandRestart
  split
  · exact sound_answerCode h _
  · rename_i hoff
    exact sound_answerCode (sound_updateRequest h.placed.restartFrom (h.restartFrom hoff)) _

/-! ### LEAVE -/

theorem leaveFrom (h : Sound s) (hallowed : leaveAllowed s = true) (hfree : freeReservations s ≠ 0) :
    Running (leaveFrom (reserve s)) := by
  have hrun := h.running
  have hc := h.placed.control
  have hsteady : Steady (reserve s) := hrun.toSteady.of_same rfl rfl rfl rfl rfl rfl rfl
  unfold leaveAllowed at hallowed
  unfold Machine.leaveFrom
  change Running (match s.control.state with
    | .member | .syncing => addPurpose .leave (changeState .leaving (reserve s))
    | .departing => (reserve s).setControl { (reserve s).control with cause := some .leave }
    | .listen | .founding | .joining | .isolated => leaveEnds (reserve s)
    | .offline | .leaving => reserve s)
  cases hstate : s.control.state <;> rw [hstate] at hallowed
  case offline | leaving => exact absurd hallowed Bool.false_ne_true
  case member | syncing =>
    have hj : (reserve s).judging := by simp [State.judging, hstate]
    have hadd := Booked.addPurpose (changeState .leaving (reserve s)) (a := .leave) (by decide) (by decide)
    have hmoved : Steady (changeState .leaving (reserve s)) :=
      hsteady.changeState (hsteady.observing.changeState (notOff_of_judging hj) (by decide))
        (hsteady.grants_changeState_group hj (.inl rfl))
    obtain ⟨-, -, hclaim, hport, -⟩ := changeState_frame .leaving (reserve s)
    refine Running.of_booked ⟨hmoved,
      sentGoesWith_changeState (s := Machine.reserve s) (sentGoesWith_of_same hrun.sent rfl rfl) _, ?_⟩ hadd
    refine accountsSound_leaveTaken hrun.accounts hfree (leaveHeld_eq_false hc (by rw [hstate]; decide))
      (leaveHeld_changeState (s := reserve s) hc.cause.mp _) ?_ (changeState_ids .leaving (reserve s))
      (by rw [hclaim]; rfl)
    rw [hport]
    exact ⟨rfl, rfl, rfl⟩
  case departing =>
    have hcause : s.control.cause ≠ some .leave := by simpa using hallowed
    exact ⟨hsteady.of_same rfl rfl rfl rfl rfl rfl rfl, sentGoesWith_of_same hrun.sent rfl rfl,
      accountsSound_leaveTaken hrun.accounts hfree
      (by simp [leaveHeld, hstate, beq_eq_false_iff_ne.mpr hcause]) (by simp [leaveHeld]) ⟨rfl, rfl, rfl⟩ rfl rfl⟩
  case listen | founding | joining | isolated =>
    have hposted : Steady (postCompletions [.leaveLeft] (reserve s)) :=
      hsteady.of_reacts (.postCompletions _ _) (by simp)
    refine ⟨hposted.changeState_off (hrun.noGrants hstate (by decide)) (.inl rfl),
      sentGoesWith_changeState (s := postCompletions [.leaveLeft] (Machine.reserve s))
        (sentGoesWith_of_same hrun.sent rfl rfl) _, ?_⟩
    refine accountsSound_changeState_of (u := postCompletions [.leaveLeft] (Machine.reserve s)) (new := .offline) ?_ hc.cause.mp rfl rfl (by rw [hstate]; decide) (by decide)
    obtain ⟨hdue, hroom, hfaults, hlist, hids⟩ := hrun.accounts
    have hfree' : s.port.reserved + s.port.completions.length < 16 := by
      unfold freeReservations Config.completionDepth at hfree
      omega
    refine ⟨hdue, ?_, hfaults, hlist, hids⟩
    rw [postCompletions_port, reserve_port]
    dsimp only
    rw [List.length_append, List.length_singleton]
    omega

theorem commandLeave (h : Sound s) : Sound (commandLeave s) := by
  unfold Machine.commandLeave
  split
  · exact sound_answerCode h _
  · rename_i hallowed
    split
    · exact sound_answerCode h _
    · rename_i hfree
      exact sound_answerCode (sound_updateRequest h.placed.reserve.leaveFrom
        (h.leaveFrom (by simpa using hallowed) hfree)) _

/-! ### The claim unit's commands -/

theorem commandPause (h : Sound s) (paused : Bool) : Sound (commandPause paused s) := by
  have hset : Running (s.setClaim { s.claim with paused := paused }) :=
    h.running.of_same rfl rfl rfl rfl rfl rfl rfl rfl rfl rfl rfl
  have hplaced : Placed (s.setClaim { s.claim with paused := paused }) := h.placed.of_blocks rfl rfl rfl rfl
  exact sound_answerCode
    (sound_updateRequest (hplaced.of_reacts (.updateWant _)) (hset.of_booked (.updateWant _))) _

end Sound

theorem readOldest_handles (gs : List Grant) : (readOldest gs).map Grant.handle = gs.map Grant.handle := by
  induction gs with
  | nil => rfl
  | cons g gs ih =>
    unfold readOldest
    split
    · rfl
    · rw [List.map_cons, ih, List.map_cons]

theorem readOldest_read {gs : List Grant} (h : ∃ g ∈ gs, g.state = .unread) :
    ((readOldest gs).filter (fun g => g.state != .unread)).length =
      (gs.filter (fun g => g.state != .unread)).length + 1 := by
  induction gs with
  | nil => simp at h
  | cons g gs ih =>
    unfold readOldest
    by_cases hg : g.state = .unread
    · rw [if_pos hg]
      simp [hg]
    · rw [if_neg hg]
      obtain ⟨x, hx, hux⟩ := h
      have hx' : x ∈ gs := (List.mem_cons.mp hx).resolve_left (by rintro rfl; exact hg hux)
      have ih' := ih ⟨x, hx', hux⟩
      simp [hg, ih']

theorem finishGrant_handles (h : Handle) (gs : List Grant) :
    (finishGrant h gs).map Grant.handle = gs.map Grant.handle := by
  unfold finishGrant
  rw [List.map_map]
  refine List.map_congr_left fun g _ => ?_
  simp only [Function.comp]
  split <;> rfl

theorem finishGrant_read {h : Handle} {gs : List Grant} (hread : ∀ g ∈ gs, g.handle = h → g.state ≠ .unread) :
    ((finishGrant h gs).filter (fun g => g.state != .unread)).length =
      (gs.filter (fun g => g.state != .unread)).length := by
  unfold finishGrant
  rw [List.filter_map, List.length_map]
  refine congrArg List.length (List.filter_congr fun g hg => ?_)
  simp only [Function.comp]
  split
  · rename_i heq
    rw [Bool.eq_iff_iff, bne_iff_ne, bne_iff_ne]
    exact ⟨fun _ => hread g hg heq, fun _ => GrantState.noConfusion⟩
  · rfl

namespace Sound

variable {s : State}

theorem commandReadGrant (h : Sound s) : Sound (commandReadGrant s) := by
  unfold Machine.commandReadGrant
  split
  · exact sound_answerCode h _
  · rename_i g hg
    split
    · exact sound_answerCode h _
    · rename_i hfree
      refine sound_answerHost ?_ _ _ _ _
      obtain ⟨hplace, hline, hrun⟩ := sound_iff.mp h
      have hhandles := readOldest_handles s.claim.grants
      have hread := readOldest_read ⟨g, List.mem_of_find?_eq_some hg, by simpa using List.find?_some hg⟩
      refine sound_iff.mpr ⟨hplace.of_blocks rfl rfl rfl rfl, lineFollows_of_same hline rfl ?_,
        hrun.toSteady.of_same rfl rfl rfl rfl rfl hhandles rfl,
        sentGoesWith_of_same hrun.sent rfl rfl, ?_⟩
      · exact wantsBus_congr rfl rfl rfl rfl rfl rfl (by simpa using congrArg List.length hhandles) rfl
      · refine accountsSound_of_reserved hrun.accounts hfree rfl rfl rfl ?_ hrun.accounts.2.2.2.1 hrun.accounts.2.2.2.2
        change s.origin.raises.length + _ + (leaveHeld s).toNat = s.origin.raises.length + _ + (leaveHeld s).toNat + 1
        simp only [Machine.reserve, State.setPort_claim, State.setClaim_claim]
        omega

theorem commandFinish (h : Sound s) : Sound (commandFinish s) := by
  unfold Machine.commandFinish
  split
  · exact sound_answerCode h _
  · rename_i handle _
    split
    · exact sound_answerCode h _
    · rename_i g hg
      split
      · rename_i hservice
        have hplaced : Placed (s.setClaim { s.claim with grants := finishGrant handle s.claim.grants }) :=
          h.placed.of_blocks rfl rfl rfl rfl
        have hrun := h.running
        have hmem := List.mem_of_find?_eq_some hg
        have hhandle : g.handle = handle := by simpa using List.find?_some hg
        have hread : ∀ x ∈ s.claim.grants, x.handle = handle → x.state ≠ .unread := by
          intro x hx hxh
          have hxg : x = g := List.inj_on_of_nodup_map hrun.grants.2.2.1 hx hmem (by rw [hxh, hhandle])
          rw [hxg, hservice.1]
          decide
        have hfinish : Running (s.setClaim { s.claim with grants := finishGrant handle s.claim.grants }) := by
          refine ⟨hrun.toSteady.of_same rfl rfl rfl rfl rfl (finishGrant_handles _ _) rfl,
            sentGoesWith_of_same hrun.sent rfl rfl, ?_⟩
          obtain ⟨hdue, hrest⟩ := hrun.accounts
          refine ⟨hdue.trans ?_, hrest⟩
          unfold reservationsDue
          rw [State.setClaim_claim, finishGrant_read hread]
          rfl
        have hadd := Booked.addPurpose
          (s.setClaim { s.claim with grants := finishGrant handle s.claim.grants }) (a := .done handle) (by simp) (by simp)
        exact sound_answerCode (sound_updateRequest (hplaced.of_reacts hadd.reacts) (hfinish.of_booked hadd)) _
      · exact sound_answerCode h _

/-! ### The origin unit's commands -/

theorem raiseAccepted (h : Sound s) (a : RaiseArgs) (hlist : s.origin.raises.length < 8) (hfree : freeReservations s ≠ 0) :
    Running (raiseAccepted (nextRaiseId s) a s) := by
  have hrun := h.running
  obtain ⟨-, -, -, hfresh, -⟩ := nextRaiseId_first (s := s) (by omega)
  have hheld : Running (raiseHeld (nextRaiseId s) a s) := by
    refine ⟨hrun.toSteady.of_same rfl rfl rfl rfl rfl rfl rfl, sentGoesWith_of_same hrun.sent rfl rfl,
      accountsSound_of_reserved hrun.accounts hfree rfl rfl rfl ?_ ?_ ?_⟩
    · simp only [reservationsDue, raiseHeld, Machine.reserve, State.setPort_origin, State.setOrigin_origin,
        List.length_append, List.length_singleton]
      change _ + 1 + _ + (leaveHeld s).toNat = _
      simp only [State.setPort_claim, State.setOrigin_claim]
      omega
    · simp only [raiseHeld, Machine.reserve, State.setPort_origin, State.setOrigin_origin, List.length_append,
        List.length_singleton]
      omega
    · simp only [raiseHeld, Machine.reserve, State.setPort_origin, State.setOrigin_origin, List.map_append]
      refine List.nodup_append.mpr ⟨hrun.accounts.2.2.2.2, List.nodup_singleton _, fun x hx y hy hxy => ?_⟩
      obtain ⟨r, hr, rfl⟩ := List.mem_map.mp hx
      obtain rfl := List.mem_singleton.mp hy
      exact raiseWith_eq_none.mp hfresh r hr hxy
  unfold Machine.raiseAccepted
  dsimp only
  split
  · exact hheld.of_booked (.addPurpose _ (by simp) (by simp))
  · exact hheld

theorem commandRaise (h : Sound s) : Sound (commandRaise s) := by
  unfold Machine.commandRaise
  dsimp only
  split
  · exact sound_answerCode h _
  · split
    · exact sound_answerCode h _
    · rename_i hlist
      split
      · exact sound_answerCode h _
      · rename_i hfree
        exact sound_answerHost (sound_updateRequest (h.placed.raiseAccepted _ _)
          (h.raiseAccepted _ (Nat.not_le.mp hlist) hfree)) _ _ _ _

theorem commandEnableLine (h : Sound s) : Sound (commandEnableLine s) := by
  unfold Machine.commandEnableLine
  split
  · exact sound_answerCode h _
  · rename_i n _
    split
    · have hb := (Booked.changeLine n (fun l => { l with state := .idle }) s).trans (.evaluateLine n _)
      exact sound_answerCode (sound_updateRequest (h.placed.of_reacts hb.reacts) (h.running.of_booked hb)) _
    · exact sound_answerCode h _

/-! ### Reading the queues, the copy and the status -/

theorem commandReadCompletion (h : Sound s) : Sound (commandReadCompletion s) := by
  unfold Machine.commandReadCompletion
  split
  · exact sound_answerCode h _
  · rename_i c cs hcs
    obtain ⟨hplace, hline, hrun⟩ := sound_iff.mp h
    refine sound_answerHost ?_ _ _ _ _
    refine sound_iff.mpr ⟨hplace.of_blocks rfl rfl rfl rfl, lineFollows_of_same hline rfl rfl,
      hrun.toSteady.of_same rfl rfl rfl rfl rfl rfl rfl, sentGoesWith_of_same hrun.sent rfl rfl, ?_⟩
    obtain ⟨hdue, hroom, hrest⟩ := hrun.accounts
    rw [hcs, List.length_cons] at hroom
    exact ⟨hdue, show s.port.reserved + cs.length ≤ 16 by omega, hrest⟩

theorem commandReadFault (h : Sound s) : Sound (commandReadFault s) := by
  unfold Machine.commandReadFault
  split
  · exact sound_answerCode h _
  · rename_i f fs hfs
    obtain ⟨hplace, hline, hrun⟩ := sound_iff.mp h
    refine sound_answerHost ?_ _ _ _ _
    refine sound_iff.mpr ⟨hplace.of_blocks rfl rfl rfl rfl, lineFollows_of_same hline rfl rfl,
      hrun.toSteady.of_same rfl rfl rfl rfl rfl rfl rfl, sentGoesWith_of_same hrun.sent rfl rfl, ?_⟩
    obtain ⟨hdue, hroom, hfaults, hrest⟩ := hrun.accounts
    rw [hfs, List.length_cons] at hfaults
    exact ⟨hdue, hroom, show fs.length ≤ 8 by omega, hrest⟩

theorem commandInspect (h : Sound s) : Sound (commandInspect s) := by
  unfold Machine.commandInspect
  split
  · exact sound_answerCode h _
  · split
    · exact sound_answerHost h _ _ _ _
    · exact sound_answerCode h _

theorem commandStatus (h : Sound s) : Sound (commandStatus s) := sound_setPort h rfl rfl rfl rfl

theorem writeCommand (h : Sound s) (code : Word32) : Sound (writeCommand code s) := by
  have h' := h.takeCommand code
  unfold Machine.writeCommand
  dsimp only
  split
  · exact h'.commandSet
  · exact h'.commandStart
  · exact h'.commandRestart
  · exact h'.commandLeave
  · exact h'.commandPause _
  · exact h'.commandPause _
  · exact h'.commandReadGrant
  · exact h'.commandFinish
  · exact h'.commandRaise
  · exact h'.commandEnableLine
  · exact h'.commandReadCompletion
  · exact h'.commandReadFault
  · exact h'.commandInspect
  · exact h'.commandStatus
  · exact sound_answerCode h' _

theorem writeWindow (h : Sound s) (loc : Fin 16) (v : Word32) : Sound (writeWindow loc v s) := by
  unfold Machine.writeWindow
  split
  · exact h.writeCommand v
  · exact sound_setPort h rfl rfl rfl rfl
  · exact sound_setPort h rfl rfl rfl rfl
  · exact sound_setPort h rfl rfl rfl rfl
  · exact sound_setPort h rfl rfl rfl rfl
  · exact sound_setPort h rfl rfl rfl rfl
  · exact h

end Sound

end Sys2Proof.Machine
end


section
/-! The lines, the timers and the bus before an attempt ends keep the station sound (R24, R25, R26, R84, R97). -/

set_option Elab.async false

namespace Sys2Proof.Machine

namespace Steady

variable {s t : State}

/-- Of the bus interface only what does not bear on observing changes. -/
theorem of_bus (h : Steady s) {b : Bus} (hattempt : b.attempt = s.bus.attempt) (hobs : b.observing = s.bus.observing)
    (hrest : b.awaitRest = s.bus.awaitRest) : Steady (s.setBus b) where
  copy := recordSound_of_same h.copy rfl
  observing := h.observing.of_same Iff.rfl hattempt hobs hrest rfl
  agenda := agendaSound_of_same h.agenda rfl rfl rfl
  grants := grantsSound_of_same h.grants rfl (claimInFlight_congr hattempt) rfl rfl rfl rfl

end Steady

namespace Running

variable {s t : State}

theorem of_bus (h : Running s) {b : Bus} (hattempt : b.attempt = s.bus.attempt) (hobs : b.observing = s.bus.observing)
    (hrest : b.awaitRest = s.bus.awaitRest) : Running (s.setBus b) :=
  ⟨h.toSteady.of_bus hattempt hobs hrest, sentGoesWith_of_same h.sent hattempt rfl,
    accountsSound_of_same h.accounts rfl rfl h.accounts.2.2.1 rfl rfl rfl⟩

theorem addPurpose (h : Running s) (a : Aim) : Running (addPurpose a s) := by
  obtain ⟨hnumber, hbus, hrecord, hcontrol, horigin, hclaim, hport, -⟩ := addPurpose_frame a s
  refine ⟨⟨recordSound_of_same h.copy hrecord, h.observing.of_blocks hbus (by rw [hcontrol]) (addPurpose_idle a s),
    agendaSound_addPurpose a h.agenda, ?_⟩, sentGoesWith_of_same h.sent (by rw [hbus]) (addPurpose_sent a s), ?_⟩
  · exact grantsSound_of_same h.grants (by rw [hclaim]) (claimInFlight_congr (by rw [hbus])) (by rw [hport]) hnumber
      (by rw [hcontrol]) hrecord
  · exact accountsSound_of_same h.accounts (by rw [hport]) (by rw [hport]) (by rw [hport]; exact h.accounts.2.2.1)
      (by rw [horigin]) (by rw [hclaim]) (leaveHeld_congr hcontrol)

theorem stopIdle (h : Running s) : Running (s.setAgenda { s.agenda with idle := none }) where
  copy := recordSound_of_same h.copy rfl
  observing := ⟨h.observing.attempt, h.observing.discard, h.observing.off, fun hi => absurd hi Bool.false_ne_true,
    h.observing.on⟩
  agenda := agendaSound_of_same h.agenda rfl rfl rfl
  grants := grantsSound_of_same h.grants rfl rfl rfl rfl rfl rfl
  sent := sentGoesWith_of_same h.sent rfl rfl
  accounts := accountsSound_of_same h.accounts rfl rfl h.accounts.2.2.1 rfl rfl rfl

/-- A change of state on the bus from LISTEN, FOUNDING or JOINING. -/
theorem moves (h : Running s) (hc : s.control.cause.isSome → s.control.state = .departing)
    (hs : s.control.state = .listen ∨ s.control.state = .founding ∨ s.control.state = .joining) {new : StationState}
    (hnew : new ≠ .offline ∧ new ≠ .isolated ∧ new ≠ .leaving) : Running (changeState new s) := by
  have hnil : s.claim.grants = [] := grants_eq_nil h.grants (by rcases hs with hs | hs | hs <;> simp [hs])
  refine ⟨h.toSteady.changeState_on ?_ hnil ⟨hnew.1, hnew.2.1⟩, sentGoesWith_changeState h.sent new,
    accountsSound_changeState_of (s := s) h.accounts hc rfl rfl ?_ hnew.2.2⟩
  · rcases hs with hs | hs | hs <;> simp [State.off, hs]
  · rcases hs with hs | hs | hs <;> simp [hs]

theorem joinTimedOut (h : Running s) (hc : s.control.cause.isSome → s.control.state = .departing)
    (hs : s.control.state = .joining) : Running (joinTimedOut s) := by
  have hmoved := h.moves hc (.inr (.inr hs)) (new := .listen) (by decide)
  have hnoted : Running ((changeState .listen s).setControl { (changeState .listen s).control with note := some 0 }) :=
    hmoved.of_control rfl rfl
  exact hnoted.of_booked (.postFault _ _ _ _ _ _)

end Running

namespace Sound

variable {s t : State}

/-! ### Lines and timers -/

theorem eventLineChange (h : Sound s) (n : Line) (level : Bool) : Sound (updateRequest (inputChanges n level s)) := by
  have hb := Booked.inputChanges n level s
  exact sound_updateRequest (h.placed.of_reacts hb.reacts) (h.running.of_booked hb)

/-- A command that works out the request line anew after what keeps a sound station so. -/
theorem of_update (hp : Placed (updateRequest t)) (h : Running t) : Sound (updateRequest t) :=
  sound_updateRequest (s := t) (hp.of_blocks rfl rfl rfl rfl) h

theorem idleTimerExpiry (h : Sound s) (ht : exec .idleTimerExpiry s = .next t) : Sound t := by
  have hp := h.placed.idleTimerExpiry ht
  change Host.Outcome.next _ = _ at ht
  cases ht
  split at hp <;> rename_i hidle
  · rw [if_pos hidle]
    refine of_update hp ?_
    split
    · exact h.running.stopIdle.addPurpose _
    · exact h.running.stopIdle
  · rw [if_neg hidle]
    exact h

theorem departingWaitExpiry (h : Sound s) (ht : exec .departingWaitExpiry s = .next t) : Sound t := by
  have hp := h.placed.departingWaitExpiry ht
  change Host.Outcome.next _ = _ at ht
  cases ht
  split at hp <;> rename_i hwait
  · rw [if_pos hwait]
    have hstop : Running (s.setControl { s.control with wait := none }) := h.running.of_control rfl rfl
    exact of_update hp (hstop.addPurpose _)
  · rw [if_neg hwait]
    exact h

theorem quietTimerExpiry (h : Sound s) (ht : exec .quietTimerExpiry s = .next t) : Sound t := by
  have hp := h.placed.quietTimerExpiry ht
  change Host.Outcome.next _ = _ at ht
  cases ht
  split at hp <;> rename_i hquiet
  · rw [if_pos hquiet]
    exact of_update hp (h.running.moves h.placed.control.cause.mp (.inl hquiet.2) (by decide))
  · rw [if_neg hquiet]
    exact h

theorem joinReplyTimerExpiry (h : Sound s) (ht : exec .joinReplyTimerExpiry s = .next t) : Sound t := by
  have hp := h.placed.joinReplyTimerExpiry ht
  change Host.Outcome.next _ = _ at ht
  cases ht
  split at hp <;> rename_i hreply
  · rw [if_pos hreply]
    exact of_update hp (h.running.joinTimedOut h.placed.control.cause.mp hreply.2)
  · rw [if_neg hreply]
    exact h

theorem backoffEnds {u : State} (h : Running u) (hc : u.control.cause.isSome → u.control.state = .departing)
    (noted : Bool) (follow : FollowOn) : Running (backoffEnds noted follow u) := by
  unfold Machine.backoffEnds
  split
  · rename_i hs
    split
    · exact h.moves hc (.inl hs) (by decide)
    · exact h.of_control rfl rfl
  · split
    · exact h.addPurpose _
    · exact h
  all_goals exact h

theorem backoffTimerExpiry (h : Sound s) (ht : exec .backoffTimerExpiry s = .next t) : Sound t := by
  have hp := h.placed.backoffTimerExpiry ht
  change Host.Outcome.next _ = _ at ht
  cases ht
  cases hb : s.control.backoff with
  | none => exact h
  | some b =>
    simp only [hb] at hp
    have hstop : Running (s.setControl { s.control with backoff := none, headNoted := false }) :=
      h.running.of_control rfl rfl
    exact of_update hp (backoffEnds hstop h.placed.control.cause.mp _ _)

theorem setAsideTimerExpiry (h : Sound s) {age : Nat} (ht : exec (.setAsideTimerExpiry age) s = .next t) : Sound t := by
  have hp := h.placed.setAsideTimerExpiry ht
  change Host.Outcome.next _ = _ at ht
  cases ht
  split at hp <;> rename_i haside
  · rw [if_pos haside]
    refine of_update hp (h.running.of_booked (.of_quiet (.map s _ (fun p => ?_) (fun p => ?_) (fun p hp => ?_))
      rfl rfl rfl))
    all_goals split
    all_goals first | rfl | exact hp
  · rw [if_neg haside]
    exact h

theorem addRevoke_booked (x : Source) (hd : Option Handle) (u : State) : Booked u (addRevoke x hd u) := by
  unfold addRevoke
  split
  · exact .refl u
  · split
    · exact .refl u
    · exact .addPurpose _ (by simp) (by simp)

theorem serviceTimerExpiry (h : Sound s) {x : Source} (ht : exec (.serviceTimerExpiry x) s = .next t) : Sound t := by
  have hp := h.placed.serviceTimerExpiry ht
  change Host.Outcome.next _ = _ at ht
  cases ht
  cases x with
  | line n =>
    dsimp only at hp ⊢
    split at hp <;> rename_i htimer
    · rw [if_pos htimer]
      exact of_update hp (h.running.of_booked ((Booked.changeLine _ _ s).trans (addRevoke_booked _ _ _)))
    · rw [if_neg htimer]
      exact h
  | raise id =>
    dsimp only at hp ⊢
    cases hr : raiseWith s id with
    | none => exact h
    | some r =>
      simp only [hr] at hp
      dsimp only
      split at hp <;> rename_i htimer
      · rw [if_pos htimer]
        refine of_update hp (h.running.of_booked ((Booked.changeRaise _ ?_ s).trans (addRevoke_booked _ _ _)))
        exact fun _ => rfl
      · rw [if_neg htimer]
        exact h

/-! ### The bus before an attempt ends -/

theorem busAtRest (h : Sound s) (hrest : s.bus.awaitRest = true ∧ s.bus.attempt = none) :
    Sound (updateRequest (s.setBus { s.bus with awaitRest := false, observing := true })) := by
  obtain ⟨hawait, hnone⟩ := hrest
  have hrun := h.running
  have hon : ¬s.off := fun hoff => by
    have := (hrun.observing.off hoff).1
    rw [hawait] at this
    exact absurd this (by decide)
  refine sound_updateRequest (h.placed.of_blocks rfl rfl rfl rfl) ⟨⟨recordSound_of_same hrun.copy rfl, ?_,
    agendaSound_of_same hrun.agenda rfl rfl rfl, ?_⟩, sentGoesWith_of_same hrun.sent rfl rfl,
    accountsSound_of_same hrun.accounts rfl rfl hrun.accounts.2.2.1 rfl rfl rfl⟩
  · exact ⟨fun _ => rfl, fun a ha => absurd ha (by simp [hnone]), fun hoff => absurd hoff hon, fun _ => rfl,
      fun _ => .inl rfl⟩
  · exact grantsSound_of_same hrun.grants rfl rfl rfl rfl rfl rfl

theorem arbitrationOpen (h : Sound s) : Sound (s.setBus { s.bus with arbitrating := true, requestChanged := false }) := by
  obtain ⟨hplace, hline, hrun⟩ := sound_iff.mp h
  exact sound_iff.mpr ⟨hplace.of_blocks rfl rfl rfl rfl, hline, hrun.of_bus rfl rfl rfl⟩

theorem frameEnd (h : Sound s) {a : Attempt} (ha : s.bus.attempt = some a) (words : List Word16) :
    Sound (s.setBus { s.bus with attempt := some (frameEnds words s a) }) := by
  have hdriven : (frameEnds words s a).driven = a.driven := by
    unfold frameEnds
    split <;> rfl
  have hdiscard : (frameEnds words s a).discard = a.discard := by
    unfold frameEnds
    split <;> rfl
  obtain ⟨hplace, hline, hrun⟩ := sound_iff.mp h
  have hsending : sending (s.setBus { s.bus with attempt := some (frameEnds words s a) }) = sending s := by
    unfold sending
    rw [ha]
    exact congrArg Option.isSome hdriven
  have hflight : claimInFlight (s.setBus { s.bus with attempt := some (frameEnds words s a) }) = claimInFlight s := by
    unfold claimInFlight
    rw [ha]
    simp [hdriven]
  refine sound_iff.mpr ⟨hplace.of_blocks rfl rfl rfl rfl, ?_, ⟨recordSound_of_same hrun.copy rfl, ?_,
    agendaSound_of_same hrun.agenda rfl rfl rfl, ?_⟩, ?_, ?_⟩
  · unfold LineFollows
    rw [hsending]
    exact hline
  · refine ⟨fun _ => hrun.observing.attempt (by rw [ha]; rfl), fun b hb => ?_, fun hoff =>
      ⟨(hrun.observing.off hoff).1, fun hn => absurd hn (by simp)⟩, hrun.observing.idle, hrun.observing.on⟩
    obtain rfl : frameEnds words s a = b := by simpa using hb
    rw [hdiscard]
    exact hrun.observing.discard a ha
  · exact grantsSound_of_same hrun.grants rfl hflight rfl rfl rfl rfl
  · unfold SentGoesWith
    rw [hsending]
    exact hrun.sent
  · exact accountsSound_of_same hrun.accounts rfl rfl hrun.accounts.2.2.1 rfl rfl rfl

end Sound

/-! ### The close of arbitration (R26, R27, R89) -/

theorem agendaSound_agendaGrants {s : State} (h : AgendaSound s) : AgendaSound (agendaGrants s) := by
  have hfilter := (Reacts.filter s (fun p => !lapses s p)).sound h
  have hsent : AgendaSound (s.setAgenda { s.agenda with
      purposes := s.agenda.purposes.filter (fun p => !lapses s p), sent := grantSent s }) :=
    agendaSound_of_same hfilter rfl rfl rfl
  unfold agendaGrants
  dsimp only
  split
  · exact (Reacts.updateWant _).sound hsent
  · exact hsent

/-- The body built from the claim unit's purpose alone is a CLAIM, of an entry that is eligible (R90, R139). -/
theorem aimBody_eq_claim {s : State} {a : Aim} {h : Handle} (hb : aimBody s a = some (.claim h)) :
    ∃ e ∈ eligible s, h = ⟨e.slot, e.tag⟩ := by
  cases a
  case claim =>
    obtain ⟨e, he, heq⟩ := Option.map_eq_some_iff.mp hb
    exact ⟨e, bestEntry_mem he, by cases heq; rfl⟩
  case duty =>
    obtain ⟨r, -, hr⟩ := Option.bind_eq_some_iff.mp hb
    split at hr
    · obtain ⟨j, -, hj⟩ := Option.bind_eq_some_iff.mp hr
      unfold dutyBody at hj
      (repeat' split at hj) <;> simp at hj
    · cases hr
  case offer x prio =>
    obtain ⟨r, -, hr⟩ := Option.bind_eq_some_iff.mp hb
    obtain ⟨k, -, hk⟩ := Option.bind_eq_some_iff.mp hr
    cases x <;> simp [offerBody] at hk
  case leave =>
    simp only [aimBody] at hb
    split at hb <;> cases hb
  case done | revoke | withdraw =>
    obtain ⟨r, -, hr⟩ := Option.bind_eq_some_iff.mp hb
    split at hr <;> cases hr
  all_goals cases hb

/-- The frame of a grant has the body of the chosen purpose, or is NULL (R89, R90). -/
theorem grantFrame_body (s : State) : ((grantFrame s).body = .null ∧ chosenPurpose s = none) ∨
    ∃ p b, chosenPurpose s = some p ∧ aimBody s p.aim = some b ∧ (grantFrame s).body = b := by
  unfold grantFrame
  cases hp : chosenPurpose s with
  | none => exact .inl ⟨rfl, rfl⟩
  | some p =>
    have hmem := firstPurpose_mem hp
    have hvalid : validNow s p = true := (Bool.and_eq_true_iff.mp (List.mem_filter.mp hmem).2).2
    obtain ⟨b, hb⟩ := Option.isSome_iff_exists.mp hvalid
    exact .inr ⟨p, b, rfl, hb, by simp [frameWith, hb]⟩

theorem wantsToClaim_of_grantFrame {s : State} {h : Handle} (hb : (grantFrame s).body = .claim h) :
    wantsToClaim s = true := by
  rcases grantFrame_body s with ⟨hnull, -⟩ | ⟨p, b, -, hbody, heq⟩
  · rw [hnull] at hb
    cases hb
  · rw [← heq, hb] at hbody
    obtain ⟨e, he, -⟩ := aimBody_eq_claim hbody
    unfold eligible at he
    split at he
    · rename_i hwants
      exact (Bool.and_eq_true_iff.mp hwants).1
    · exact absurd he List.not_mem_nil

theorem foundReplaced_bus (s : State) : (foundReplaced s).bus = s.bus := by
  unfold foundReplaced
  split
  · exact changeState_bus s (by decide)
  · rfl

/-- An observing station is on the bus and no longer waits for it to be at rest. -/
theorem not_off_of_observes (h : Observing s) (hobs : observes s = true) (hnone : s.bus.attempt = none) :
    ¬s.off ∧ s.bus.observing = true ∧ s.bus.awaitRest = false := by
  unfold observes at hobs
  simp only [Bool.and_eq_true, Bool.not_eq_true'] at hobs
  refine ⟨fun hoff => ?_, hobs⟩
  have := (h.off hoff).2 hnone
  rw [hobs.1] at this
  exact absurd this (by decide)

/-- An attempt begins at an observing station, as its sender or as a receiver. -/
theorem observing_newAttempt {u : State} (hon : ¬u.off ∧ u.bus.observing = true ∧ u.bus.awaitRest = false)
    {b : Bus} {a : Attempt} (ha : b.attempt = some a) (hdiscard : a.discard = false)
    (hobserving : b.observing = u.bus.observing) (hrest : b.awaitRest = u.bus.awaitRest) : Observing (u.setBus b) := by
  obtain ⟨hoff, hobs', hrest'⟩ := hon
  refine ⟨fun _ => hobserving.trans hobs', fun x hx => ?_, fun ho => absurd ho hoff, fun _ => hobserving.trans hobs',
    fun _ => .inl (hobserving.trans hobs')⟩
  obtain rfl : a = x := by simpa [ha] using hx
  rw [hdiscard, State.setBus_bus, hrest, hrest']
  simpa using hoff

theorem wantsToClaim_room {s : State} (h : wantsToClaim s = true) :
    s.control.state = .member ∧ s.claim.grants.length < s.port.store.d := by
  unfold wantsToClaim grantRoom at h
  simp only [Bool.and_eq_true, beq_iff_eq, decide_eq_true_eq] at h
  exact ⟨h.1.1.1, h.1.2⟩

namespace Sound

variable {s : State}

theorem foundReplaced (h : Sound s) : Running (foundReplaced s) := by
  unfold Machine.foundReplaced
  split
  · rename_i hs
    exact h.running.moves h.placed.control.cause.mp (.inr (.inl hs.1)) (by decide)
  · exact h.running

theorem granted (h : Sound s) (hobs : observes s = true) (hnone : s.bus.attempt = none) (v : StationSet) :
    Running (granted v s) := by
  have hg := h.foundReplaced
  have hbus := foundReplaced_bus s
  obtain ⟨hnumber, hgbus, hrecord, hcontrol, horigin, hclaim, hport, -⟩ := agendaGrants_frame (Machine.foundReplaced s)
  have hon := not_off_of_observes hg.observing (by unfold observes; rw [hbus]; exact hobs) (by rw [hbus, hnone])
  have hplaced := h.placed.foundReplaced
  refine ⟨⟨recordSound_of_same hg.copy hrecord, ?_, agendaSound_of_same (agendaSound_agendaGrants hg.agenda) rfl rfl rfl, ?_⟩,
    fun _ => rfl, accountsSound_of_same hg.accounts (congrArg _ hport) (congrArg _ hport) ?_ (by rw [← horigin]; rfl)
      (by rw [← hclaim]; rfl) (leaveHeld_congr hcontrol)⟩
  · refine observing_newAttempt (u := agendaGrants (Machine.foundReplaced s)) ?_ rfl rfl rfl rfl
    unfold State.off
    rw [hcontrol, hgbus]
    exact hon
  · have hsame : GrantsSound (agendaGrants (Machine.foundReplaced s)) :=
      grantsSound_of_same hg.grants (by rw [hclaim]) (claimInFlight_congr (by rw [hgbus])) (by rw [hport]) hnumber
        (by rw [hcontrol]) hrecord
    refine ⟨hsame.1, fun hflight => ?_, hsame.2.2⟩
    have hbody : ∃ d, (grantFrame (Machine.foundReplaced s)).body = .claim d := by
      change (match (grantFrame (Machine.foundReplaced s)).body with | .claim _ => true | _ => false) = true at hflight
      split at hflight
      · exact ⟨_, ‹_›⟩
      · cases hflight
    obtain ⟨d, hd⟩ := hbody
    obtain ⟨hstate, hroom⟩ := wantsToClaim_room (wantsToClaim_of_grantFrame hd)
    change (agendaGrants _).claim.grants.length < (agendaGrants _).port.store.d ∧ (agendaGrants _).port.store.locked = true
    rw [hclaim, hport]
    exact ⟨hroom, hplaced.locked_of_ne hstate (by decide)⟩
  · change (agendaGrants _).port.faults.length ≤ 8
    rw [hport]
    exact hg.accounts.2.2.1

theorem receives (h : Sound s) (hobs : observes s = true) (hnone : s.bus.attempt = none) (v : StationSet) (own : Bool)
    (w : Station) : Running (receives v own w s) := by
  have hrun := h.running
  have hon := not_off_of_observes hrun.observing hobs hnone
  refine ⟨⟨recordSound_of_same hrun.copy rfl, observing_newAttempt hon rfl rfl rfl rfl,
    agendaSound_of_same hrun.agenda rfl rfl rfl, hrun.grants.1, fun hf => absurd hf Bool.false_ne_true, hrun.grants.2.2⟩,
    fun hs => ?_, accountsSound_of_same hrun.accounts rfl rfl hrun.accounts.2.2.1 rfl rfl rfl⟩
  have := hrun.sent hs
  unfold sending at this
  rw [hnone] at this
  exact absurd this (by decide)

theorem arbitrationClose (h : Sound s) (hobs : observes s = true ∧ s.bus.attempt = none) (lines : Sampling) :
    Sound (updateRequest (arbitrationCloses lines s)) := by
  refine sound_updateRequest (h.placed.arbitrationCloses lines) ?_
  unfold arbitrationCloses
  dsimp only
  split
  · exact h.running.of_bus rfl rfl rfl
  · split
    · exact h.granted hobs.1 hobs.2 _
    · exact h.receives hobs.1 hobs.2 _ _ _

end Sound

end Sys2Proof.Machine
end


section
/-! What a judgement's report says of the entries (R61, R83): the lines of the departures, and the line of the frame
that was applied. -/

set_option Elab.async false

namespace Sys2Proof.Machine

/-! ### Lines by departures -/

/-- What a departure makes of an entry (R80, R81). -/
def Became.byDeparture : Became → Bool
  | .returnedByDeparture _ | .removedByClaimantDeparture _ | .removedByOriginDeparture _ | .orphaned _ => true
  | .created | .claimed _ | .returnedByRevoke | .removedByDone | .removedByWithdraw | .removedByRevoke => false

theorem claimantSideChange_byDeparture {x : Station} {m : StationSet} {e : Entry} {c : EntryChange}
    (h : claimantSideChange x m e = some c) : c.became.byDeparture = true := by
  unfold claimantSideChange at h
  (repeat' split at h) <;> cases h <;> rfl

theorem originSideChange_byDeparture {x : Station} {e : Entry} {c : EntryChange}
    (h : originSideChange x e = some c) : c.became.byDeparture = true := by
  unfold originSideChange at h
  (repeat' split at h) <;> cases h <;> rfl

theorem departChanges_byDeparture {x : Station} {r : Record} {c : EntryChange} (h : c ∈ departChanges x r) :
    c.became.byDeparture = true := by
  rcases List.mem_append.mp h with h | h
  · obtain ⟨e, -, he⟩ := List.mem_filterMap.mp h
    exact claimantSideChange_byDeparture he
  · obtain ⟨e, -, he⟩ := List.mem_filterMap.mp h
    exact originSideChange_byDeparture he

theorem departAll_byDeparture (k : DepartureCause) (l : List Station) {t : Tally}
    (h : ∀ c ∈ t.changes, c.became.byDeparture = true) :
    ∀ c ∈ (l.foldl (departOne k) t).changes, c.became.byDeparture = true := by
  induction l generalizing t with
  | nil => exact h
  | cons n l ih =>
    refine ih fun c hc => ?_
    rcases List.mem_append.mp hc with hc | hc
    · exact h c hc
    · exact departChanges_byDeparture hc

theorem afterAbstentions_byDeparture (r : Record) (fields : Vector Response 16) :
    ∀ c ∈ (afterAbstentions r fields).changes, c.became.byDeparture = true :=
  departAll_byDeparture _ _ fun _ h => absurd h List.not_mem_nil

/-! ### The line of the frame applied -/

/-- The frame of a judgement is applied to the copy as the abstentions left it, or every line of the report is one of a
departure (R50, R83). -/
theorem judge_applied_cases (me : Station) (x : Seen) (r : Record) :
    (∃ f, x.frame = some f ∧ contentOk me x.winner (afterAbstentions r x.fields).record f.body = true ∧
      (judge me x r).applied = true ∧
      (judge me x r).record =
        tookRecord (applyBody me x.winner f.seq (afterAbstentions r x.fields) f.body).record ∧
      (judge me x r).changes = (applyBody me x.winner f.seq (afterAbstentions r x.fields) f.body).changes) ∨
    ((judge me x r).applied = false ∧ ∀ c ∈ (judge me x r).changes, c.became.byDeparture = true) := by
  have hleft := afterAbstentions_byDeparture r x.fields
  rcases judge_cases me x r with h0 | ⟨-, -, hj⟩ | ⟨-, -, hj⟩
  · rw [judge_of_none_left h0]
    exact .inr ⟨rfl, hleft⟩
  · rw [hj]
    rcases judgeTaken_cases me x (abstainers r x.fields) (afterAbstentions r x.fields) with
      ⟨f, hf, happ, happlied, hr, -, hc⟩ | ⟨-, happlied, -, -, hc⟩
    · exact .inl ⟨f, hf, (applies_iff.mp happ).2.1, happlied, hr, hc⟩
    · exact .inr ⟨happlied, by rw [hc]; exact hleft⟩
  · rw [hj]
    exact .inr ⟨rfl, departAll_byDeparture _ _ hleft⟩

theorem onEntry_changes {t : Tally} {h : Handle} {e : Entry} (he : entryNamed t.record h = some e)
    (f : Record → Entry → Record) (b : Entry → Became) : (onEntry t h f b).changes = t.changes ++ [⟨e, b e⟩] := by
  simp [onEntry, he, Tally.update]

/-- The line of the report for the frame applied (R83). -/
def bodyChanges (n : Station) (seq : Tag) (r : Record) : Body → List EntryChange
  | .offer k code prio targets p => [⟨offeredEntry n seq k code prio targets p, .created⟩]
  | .claim h => ((entryNamed r h).map fun e => ⟨e, .claimed n⟩).toList
  | .done h => ((entryNamed r h).map fun e => ⟨e, .removedByDone⟩).toList
  | .withdraw h => ((entryNamed r h).map fun e => ⟨e, .removedByWithdraw⟩).toList
  | .revoke h => ((entryNamed r h).map fun e =>
      ⟨e, if e.revokes + 1 < r.params.v then .returnedByRevoke else .removedByRevoke⟩).toList
  | .leave => departChanges n r
  | .null | .found _ | .join _ | .reply .. | .entry .. | .close _ | .beacon => []

theorem applyBody_changes (me n : Station) (seq : Tag) (t : Tally) (b : Body) :
    (applyBody me n seq t b).changes = t.changes ++ bodyChanges n seq t.record b := by
  have hentry : ∀ (h : Handle) (f : Record → Entry → Record) (g : Entry → Became),
      (onEntry t h f g).changes = t.changes ++ ((entryNamed t.record h).map fun e => ⟨e, g e⟩).toList := by
    intro h f g
    cases he : entryNamed t.record h with
    | none => simp [onEntry, he]
    | some e => rw [onEntry_changes he]; rfl
  cases b
  case claim | done | withdraw | revoke => exact hentry _ _ _
  case null | found | beacon => simp [applyBody, bodyChanges]
  case leave => rfl
  case offer => rfl
  all_goals simp [applyBody, bodyChanges, Tally.update]

/-- A line that says an entry was claimed is that of a CLAIM applied, after the lines of the abstentions (R67). -/
theorem claimed_of_mem_judge {me : Station} {x : Seen} {r : Record} {c : EntryChange} {n : Station}
    (hc : c ∈ (judge me x r).changes) (hb : c.became = .claimed n) :
    n = x.winner ∧ ∃ f h, x.frame = some f ∧ f.body = .claim h ∧
      contentOk me x.winner (afterAbstentions r x.fields).record (.claim h) = true ∧
      entryNamed (afterAbstentions r x.fields).record h = some c.entry ∧
      (judge me x r).record =
        tookRecord (changeEntry (afterAbstentions r x.fields).record c.entry.slot
          (fun e => { e with claimant := some n })) ∧
      (judge me x r).changes = (afterAbstentions r x.fields).changes ++ [c] := by
  have hnot : c.became.byDeparture ≠ true := by
    rw [hb]
    exact Bool.false_ne_true
  rcases judge_applied_cases me x r with ⟨f, hf, hok, -, hr, hchanges⟩ | ⟨-, hall⟩
  · rw [applyBody_changes] at hchanges
    rw [hchanges] at hc
    rcases List.mem_append.mp hc with hc | hc
    · exact absurd (afterAbstentions_byDeparture r x.fields c hc) hnot
    · cases hbody : f.body <;> rw [hbody] at hc hok hr hchanges <;> simp only [bodyChanges] at hc
      case claim h =>
        cases he : entryNamed (afterAbstentions r x.fields).record h with
        | none => simp [he] at hc
        | some e =>
          obtain rfl : c = ⟨e, .claimed x.winner⟩ := by simpa [he] using hc
          cases hb
          refine ⟨rfl, f, h, hf, hbody, hok, he, ?_, ?_⟩
          · rw [hr, applyBody, onEntry_record he]
          · rw [hchanges, bodyChanges, he]
            rfl
      case leave => exact absurd (departChanges_byDeparture hc) hnot
      case offer =>
        obtain rfl := List.mem_singleton.mp hc
        cases hb
      case done | withdraw =>
        obtain ⟨e, -, rfl⟩ := by simpa using hc
        cases hb
      case revoke =>
        obtain ⟨e, -, rfl⟩ := by simpa using hc
        dsimp only at hb
        split at hb <;> cases hb
      all_goals exact absurd hc List.not_mem_nil
  · exact absurd (hall c hc) hnot

/-! ### Claims through the departures of others -/

/-- An entry claimed by a station stays claimed by it, in its slot with its tag, when others depart (R80, R81). -/
theorem departEffects_keeps_claim {r : Record} {x n : Station} (hx : x ≠ n) {k : Slot} {tag : Tag}
    (h : ∃ e ∈ r.entries, e.slot = k ∧ e.tag = tag ∧ e.claimant = some n) :
    ∃ e ∈ (departEffects x r).entries, e.slot = k ∧ e.tag = tag ∧ e.claimant = some n := by
  obtain ⟨e, he, hk, ht, hc⟩ := h
  have hne : e.claimant ≠ some x := by
    rw [hc]
    exact fun heq => hx (Option.some.inj heq).symm
  by_cases ho : e.origin = x ∧ e.orphan = false
  · refine ⟨{ e with orphan := true }, ?_, hk, ht, hc⟩
    rw [departEffects_entries]
    refine List.mem_filterMap.mpr ⟨e, he, ?_⟩
    rw [departEntry_eq, if_neg hne, if_pos ho, if_neg (by simp [hc])]
  · refine ⟨e, ?_, hk, ht, hc⟩
    rw [departEffects_entries]
    refine List.mem_filterMap.mpr ⟨e, he, ?_⟩
    rw [departEntry_eq, if_neg hne, if_neg ho]

theorem afterAbstentions_keeps_claim {r : Record} {fields : Vector Response 16} {n : Station}
    (hn : n ∉ abstainers r fields) {k : Slot} {tag : Tag}
    (h : ∃ e ∈ r.entries, e.slot = k ∧ e.tag = tag ∧ e.claimant = some n) :
    ∃ e ∈ (afterAbstentions r fields).record.entries, e.slot = k ∧ e.tag = tag ∧ e.claimant = some n := by
  rw [afterAbstentions_record]
  revert hn h
  generalize abstainers r fields = l
  intro hn h
  induction l generalizing r with
  | nil => exact h
  | cons x l ih =>
    obtain ⟨hx, hl⟩ : n ≠ x ∧ n ∉ l := by simpa using hn
    exact ih hl (departEffects_keeps_claim (Ne.symm hx) h)

end Sys2Proof.Machine
end


section
/-! A judgement keeps the station sound: the grants that stay and the one a won CLAIM adds (R141, R144, R145), the
accounts, and where the station goes (R58, R109 to R111). -/

set_option Elab.async false

namespace Sys2Proof.Machine

/-! ### The station's own departure in a report (R60) -/

theorem departureOf_eq_none {n : Station} {ds : List (Station × DepartureCause)} :
    departureOf n ds = none ↔ ∀ d ∈ ds, d.1 ≠ n := by
  simp [departureOf]

/-- A station that stays did not abstain. -/
theorem not_mem_abstainers_of_stays {me : Station} {x : Seen} {r : Record} (h : (judge me x r).own = none) :
    me ∉ abstainers r x.fields := by
  have hdep : ∀ d ∈ (afterAbstentions r x.fields).departures, d.1 ≠ me := by
    rcases judge_cases me x r with h0 | ⟨-, -, hj⟩ | ⟨-, -, hj⟩
    · rw [judge_of_none_left h0] at h
      exact departureOf_eq_none.mp h
    · rw [hj] at h
      have hown := departureOf_eq_none.mp h
      rcases judgeTaken_cases me x (abstainers r x.fields) (afterAbstentions r x.fields) with
        ⟨f, hf, happ, -⟩ | ⟨hno, -⟩
      · intro d hd
        refine hown d ?_
        simp only [hf, Option.any_some, happ, if_true, applyBody_departures]
        exact List.mem_append_left _ hd
      · intro d hd
        refine hown d ?_
        cases hf : x.frame with
        | none => exact hd
        | some f => simpa [hno f hf] using hd
    · rw [hj] at h
      intro d hd
      refine departureOf_eq_none.mp h d ?_
      rw [departAll_departures]
      exact List.mem_append_left _ hd
  intro hme
  refine hdep (me, .abstained) ?_ rfl
  rw [afterAbstentions_departures]
  exact List.mem_map.mpr ⟨me, hme, rfl⟩

/-! ### The grants after a judgement -/

theorem stillClaimed_iff {n : Station} {r : Record} (ho : r.Ordered) {g : Grant} : stillClaimed n r g = true ↔
    ∃ e ∈ r.entries, e.slot = g.handle.slot ∧ e.tag = g.handle.tag ∧ e.claimant = some n := by
  simp only [stillClaimed, Option.any_eq_true, entryNamed_iff ho, beq_iff_eq, and_assoc]

/-- A judgement of an own CLAIM appends one grant at most: that of the entry claimed (R140). -/
theorem grantsWon_cases {s : State} {x : Seen} {r : Record} :
    grantsWon s x.isSender (judge s.number x r).changes = [] ∨
    ∃ c ∈ (judge s.number x r).changes, x.isSender = true ∧ c.became = .claimed s.number ∧
      grantsWon s x.isSender (judge s.number x r).changes = [grantOf c.entry] := by
  unfold grantsWon
  cases hs : x.isSender with
  | false => exact .inl rfl
  | true =>
    rw [if_pos rfl]
    by_cases hany : ∃ c ∈ (judge s.number x r).changes, c.became = .claimed s.number
    · obtain ⟨c, hc, hb⟩ := hany
      obtain ⟨-, f, h, -, -, -, -, -, hchanges⟩ := claimed_of_mem_judge hc hb
      refine .inr ⟨c, hc, rfl, hb, ?_⟩
      have hnone : (afterAbstentions r x.fields).changes.filter (fun c => c.became == .claimed s.number) = [] := by
        rw [List.filter_eq_nil_iff]
        intro d hd heq
        have := afterAbstentions_byDeparture r x.fields d hd
        rw [beq_iff_eq.mp heq] at this
        exact absurd this Bool.false_ne_true
      rw [hchanges, List.filter_append, hnone, List.nil_append]
      simp [hb]
    · push Not at hany
      refine .inl ?_
      rw [List.map_eq_nil_iff, List.filter_eq_nil_iff]
      exact fun c hc heq => hany c hc (beq_iff_eq.mp heq)

/-- The claim unit after a judgement (R141, R144, R145). -/
theorem judgementReacted_claim (x : Seen) (j : Judgement) (lost : Bool) (s : State) :
    (judgementReacted x j lost s).claim = { s.claim with
      grants := s.claim.grants.filter (stillClaimed s.number j.record) ++ grantsWon s x.isSender j.changes } := by
  unfold judgementReacted
  dsimp only
  rw [(updateBeacon_frame _ _ _).2.2.2.2.2.1, (postRetryLimit_frame _ _).2.2.2.2.2.2.1,
    (originReacts_all_frame _ _ _).2.2.2.2.1]
  have hframe : ∀ w : State, w.claim = s.claim → w.number = s.number →
      (claimReacts x.isSender j.record j.changes w).claim = { s.claim with
        grants := s.claim.grants.filter (stillClaimed s.number j.record) ++ grantsWon s x.isSender j.changes } := by
    intro w hclaim hnumber
    unfold claimReacts grantsWon
    rw [(postCompletions_frame _ _).2.2.2.2.2.2.1, State.setClaim_claim, hclaim, hnumber]
  refine hframe _ ?_ ?_
  · split <;> simp [judgementPosted]
  · split <;> simp [judgementPosted]

/-! ### Where a judgement takes the station (R58, R109 to R111) -/

theorem settleState_cases (s : State) (a b c d : Bool) :
    ((a || b || (c && s.control.state == .leaving)) = true ∧
      ∃ k, settleState a b c d s = enterDeparting k s ∧ (k == .leave) = (s.control.state == .leaving)) ∨
    ((a || b || (c && s.control.state == .leaving)) = false ∧
      ((d = true ∧ s.control.state = .syncing ∧ settleState a b c d s = changeState .member s) ∨
       ((d && s.control.state == .syncing) = false ∧ settleState a b c d s = s))) := by
  have hcause : ∀ k : DepartingCause, k ≠ .leave →
      ((if (s.control.state == .leaving) = true then DepartingCause.leave else k) == .leave) =
        (s.control.state == .leaving) := by
    intro k hk
    cases s.control.state == .leaving
    · exact beq_eq_false_iff_ne.mpr hk
    · rfl
  unfold settleState
  cases a
  · cases b
    · by_cases hc : (c && s.control.state == .leaving) = true
      · refine .inl ⟨by simpa using hc, .leave, by simp [hc], ?_⟩
        rw [(Bool.and_eq_true_iff.mp hc).2]
        rfl
      · refine .inr ⟨by simpa using hc, ?_⟩
        by_cases hd : (d && s.control.state == .syncing) = true
        · obtain ⟨hd', hs⟩ := Bool.and_eq_true_iff.mp hd
          exact .inl ⟨hd', by simpa using hs, by simp [hc, hd]⟩
        · exact .inr ⟨by simpa using hd, by simp [hc, hd]⟩
    · exact .inl ⟨by simp, _, rfl, hcause _ (by decide)⟩
  · exact .inl ⟨by simp, _, rfl, hcause _ (by decide)⟩

/-- A CLAIM applied to its copy by a joiner leaves its snapshot lost: no freeze stood (R63, R110). -/
theorem snapshotLost_of_claim {s : State} {x : Seen} {r : Record} {c : EntryChange}
    (hc : c ∈ (judge s.number x r).changes) (hb : c.became = .claimed s.number) (hs : s.control.state = .syncing) :
    snapshotLost s r (judge s.number x r) (closesSnapshot s r x (judge s.number x r)) = true := by
  obtain ⟨-, f, h, hf, hbody, hok, -, hr, -⟩ := claimed_of_mem_judge hc hb
  have hfrozen : frozen (afterAbstentions r x.fields).record = false := by
    simp only [contentOk, actsOnEntry, Bool.and_eq_true, Bool.not_eq_true'] at hok
    exact hok.1.2
  have hjoiner : isJoiner s.number (judge s.number x r).record = false := by
    rw [hr]
    change isJoiner s.number { (afterAbstentions r x.fields).record with entries := _ , seq := _, miss := _ } = false
    unfold frozen at hfrozen
    unfold isJoiner
    dsimp only
    split
    · rename_i j hj
      rw [hj] at hfrozen
      simp [hfrozen]
    · rfl
  have hclosed : closesSnapshot s r x (judge s.number x r) = false := by
    unfold closesSnapshot
    rw [hf]
    simp [hbody]
  unfold snapshotLost
  rw [hjoiner, hclosed, hs]
  rfl

/-! ### The accounts after a judgement -/

theorem accountsSound_claimReacts {s : State} (h : AccountsSound s) (isSender : Bool) (r : Record)
    (cs : List EntryChange) : AccountsSound (claimReacts isSender r cs s) := by
  have hended : ((s.claim.grants.filter (fun g => !stillClaimed s.number r g)).filterMap (grantEnding cs)).length =
      ((s.claim.grants.filter (fun g => g.state != .unread)).filter (fun g => !stillClaimed s.number r g)).length := by
    rw [List.filter_filter, List.length_filterMap_eq_countP, List.countP_filter, ← List.countP_eq_length_filter]
    refine List.countP_congr fun g _ => ?_
    unfold grantEnding
    cases g.state <;> simp
  have hwon : (grantsWon s isSender cs).filter (fun g => g.state != .unread) = [] := by
    rw [List.filter_eq_nil_iff]
    intro g hg
    unfold grantsWon at hg
    split at hg
    · obtain ⟨c, -, rfl⟩ := List.mem_map.mp hg
      exact Bool.false_ne_true
    · exact absurd hg List.not_mem_nil
  have hsplit : (s.claim.grants.filter (fun g => g.state != .unread)).length =
      ((s.claim.grants.filter (fun g => g.state != .unread)).filter (stillClaimed s.number r)).length +
        ((s.claim.grants.filter (fun g => g.state != .unread)).filter (fun g => !stillClaimed s.number r g)).length :=
    (List.length_eq_length_filter_add _)
  refine accountsSound_of_posted h _ rfl (by simp [claimReacts]) rfl ?_ (List.Sublist.refl _)
  unfold reservationsDue
  have hleave : leaveHeld (claimReacts isSender r cs s) = leaveHeld s :=
    leaveHeld_congr (claimReacts_frame isSender r cs s).2.2.2.2.1
  rw [hleave, (claimReacts_frame isSender r cs s).2.2.2.2.2.1, hended]
  change _ + ((s.claim.grants.filter (stillClaimed s.number r) ++ grantsWon s isSender cs).filter _).length + _ + _ = _
  rw [List.filter_append, hwon, List.append_nil, hsplit]
  simp only [List.filter_filter, Bool.and_comm]
  omega

theorem accountsSound_judgementReacted {s : State} (h : AccountsSound s) (x : Seen) (j : Judgement) (lost : Bool) :
    AccountsSound (judgementReacted x j lost s) := by
  have hset : AccountsSound (s.setRecord (some j.record)) :=
    accountsSound_of_same h rfl rfl h.2.2.1 rfl rfl rfl
  have hposted := ((Booked.postDepartures j.departures _).trans (Booked.postOwnPlace j.diverged lost _)).accounts hset
  have hcounted : AccountsSound (if x.isSender then countSent j.took (postOwnPlace j.diverged lost (judgementPosted j s))
      else postOwnPlace j.diverged lost (judgementPosted j s)) := by
    split
    · exact (Booked.countSent _ _).accounts hposted
    · exact hposted
  exact ((Booked.originReacts_all _ _ _).trans ((Booked.postRetryLimit _ _).trans (Booked.updateBeacon _ _ _))).accounts
    (accountsSound_claimReacts hcounted _ _ _)

theorem accountsSound_settleState {s : State} (h : AccountsSound s) (hc : s.control.Fits) (hj : s.judging)
    (a b c d : Bool) : AccountsSound (settleState a b c d s) := by
  rcases settleState_cases s a b c d with ⟨-, k, heq, hk⟩ | ⟨-, ⟨-, hs, heq⟩ | ⟨-, heq⟩⟩ <;> rw [heq]
  · refine accountsSound_enterDeparting h ?_
    rw [hk]
    by_cases hl : s.control.state = .leaving
    · simp [leaveHeld, hl]
    · rw [leaveHeld_eq_false hc ⟨hl, by rcases hj with hj | hj | hj <;> simp [hj]⟩]
      exact (beq_eq_false_iff_ne.mpr hl).symm
  · exact accountsSound_changeState_of (s := s) (new := .member) h hc.cause.mp rfl rfl (by simp [hs]) (by decide)
  · exact h

end Sys2Proof.Machine
end


section
/-! The end of an attempt keeps the station sound, and so every step does (R12, R84, R141, R158, R159, R161). -/

set_option Elab.async false

namespace Sys2Proof.Machine

theorem settleState_frame (a b c d : Bool) (s : State) :
    (settleState a b c d s).number = s.number ∧ (settleState a b c d s).bus = s.bus ∧
      (settleState a b c d s).record = s.record ∧ (settleState a b c d s).claim = s.claim := by
  rcases settleState_cases s a b c d with ⟨-, k, heq, -⟩ | ⟨-, ⟨-, -, heq⟩ | ⟨-, heq⟩⟩ <;> rw [heq]
  · obtain ⟨h1, h2, h3, -, h5, -⟩ := enterDeparting_frame k s
    exact ⟨h1, h2, h3, h5⟩
  · obtain ⟨h1, h2, h3, -⟩ := changeState_frame .member s
    exact ⟨h1, changeState_bus s (by decide), h2, h3⟩
  · exact ⟨rfl, rfl, rfl, rfl⟩

theorem settleState_sent (a b c d : Bool) (s : State) : (settleState a b c d s).agenda.sent = s.agenda.sent := by
  rcases settleState_cases s a b c d with ⟨-, k, heq, -⟩ | ⟨-, ⟨-, -, heq⟩ | ⟨-, heq⟩⟩ <;> rw [heq]
  · rw [(enterDeparting_frame k s).2.2.2.1]
  · exact changeState_sent .member s

theorem observing_settleState {s : State} (h : Observing s) (hj : s.judging) (a b c d : Bool) :
    Observing (settleState a b c d s) := by
  have hoff := notOff_of_judging hj
  rcases settleState_cases s a b c d with ⟨-, k, heq, -⟩ | ⟨-, ⟨-, -, heq⟩ | ⟨-, heq⟩⟩ <;> rw [heq]
  · exact (h.changeState hoff (new := .departing) (by decide)).of_blocks rfl rfl rfl
  · exact h.changeState hoff (by decide)
  · exact h

theorem agendaSound_settleState {s : State} (h : AgendaSound s) (a b c d : Bool) :
    AgendaSound (settleState a b c d s) := by
  rcases settleState_cases s a b c d with ⟨-, k, heq, -⟩ | ⟨-, ⟨-, -, heq⟩ | ⟨-, heq⟩⟩ <;> rw [heq]
  · exact agendaSound_of_same (agendaSound_changeState .departing h) rfl rfl rfl
  · exact agendaSound_changeState .member h
  · exact h

/-- The station state a judgement leads to (R58, R109 to R111). -/
theorem settleState_state (a b c d : Bool) (s : State) :
    (settleState a b c d s).control.state =
      if (a || b || (c && s.control.state == .leaving)) = true then .departing
      else if (d && s.control.state == .syncing) = true then .member else s.control.state := by
  rcases settleState_cases s a b c d with ⟨hdep, k, heq, -⟩ | ⟨hdep, ⟨hd, hs, heq⟩ | ⟨hd, heq⟩⟩ <;> rw [heq]
  · rw [if_pos hdep, enterDeparting_control]
  · rw [if_neg (by rw [hdep]; exact Bool.false_ne_true), if_pos (by simp [hd, hs]), changeState_state]
  · rw [if_neg (by rw [hdep]; exact Bool.false_ne_true), if_neg (by rw [hd]; exact Bool.false_ne_true)]

/-! ### The grants after a judgement that leaves the station in the group -/

section

variable {s : State} {r : Record} {x : Seen}

/-- The entry a CLAIM of this station has won was free, so no grant held names its slot (R67, R141). -/
theorem grant_slot_ne_won (h : GrantsSound s) (hj : s.judging) (hr : s.record = some r) (ho : r.Ordered)
    (hown : (judge s.number x r).own = none) {c : EntryChange} (hc : c ∈ (judge s.number x r).changes)
    (hb : c.became = .claimed s.number) : ∀ g ∈ s.claim.grants, g.handle.slot ≠ c.entry.slot := by
  intro g hg hslot
  obtain ⟨hwinner, f, d, -, -, hok, he, -⟩ := claimed_of_mem_judge hc hb
  have hleft := afterAbstentions_ordered ho x.fields
  obtain ⟨e', he', hs', -, hclaimant⟩ := afterAbstentions_keeps_claim (not_mem_abstainers_of_stays hown)
    (h.2.2.2.1 hj r (by rw [hr]; rfl) g hg)
  obtain ⟨hmem, -, -⟩ := (entryNamed_iff hleft).mp he
  obtain rfl : e' = c.entry := List.inj_on_of_nodup_map hleft he' hmem (hs'.trans hslot)
  obtain ⟨-, y, hy, hys, hyt, hyok⟩ := (actsOnEntry_iff hleft).mp hok
  have hye : y = c.entry := Option.some.inj (((entryNamed_iff hleft).mpr ⟨hy, hys, hyt⟩).symm.trans he)
  rw [hye] at hyok
  simp [claimable, hclaimant] at hyok

/-- The grants after a judgement have their entries in the copy as judged (R141, R144, R145). -/
theorem handlesSound_judged (h : GrantsSound s) (hj : s.judging) (hr : s.record = some r) (ho : r.Ordered)
    (hown : (judge s.number x r).own = none)
    (hroom : (∃ f d, x.frame = some f ∧ f.body = .claim d) → x.isSender = true →
      s.claim.grants.length < s.port.store.d)
    {t : State} (hstore : t.port.store = s.port.store) (hflight : claimInFlight t = false)
    (hnumber : t.number = s.number) (hrecord : t.record = some (judge s.number x r).record)
    (hplace : t.control.state = .member ∨ t.control.state = .leaving ∨ t.control.state = .departing ∨
      (s.claim.grants = [] ∧ ∀ c ∈ (judge s.number x r).changes, c.became ≠ .claimed s.number))
    (hgrants : t.claim.grants = s.claim.grants.filter (stillClaimed s.number (judge s.number x r).record) ++
      grantsWon s x.isSender (judge s.number x r).changes) : GrantsSound t := by
  have ho' := judge_ordered ho s.number x
  have hkept : ∀ g ∈ s.claim.grants.filter (stillClaimed s.number (judge s.number x r).record),
      ∃ e ∈ (judge s.number x r).record.entries, e.slot = g.handle.slot ∧ e.tag = g.handle.tag ∧
        e.claimant = some s.number := fun g hg => (stillClaimed_iff ho').mp (List.mem_filter.mp hg).2
  have hfew : (s.claim.grants.filter (stillClaimed s.number (judge s.number x r).record)).length ≤
      s.claim.grants.length := List.length_filter_le _ _
  have hslots : ((s.claim.grants.filter (stillClaimed s.number (judge s.number x r).record)).map
      (fun g => g.handle.slot)).Nodup := h.2.2.1.sublist (List.filter_sublist.map _)
  have hflight' : claimInFlight t = true → t.claim.grants.length < t.port.store.d ∧ t.port.store.locked = true :=
    fun hf => absurd (hflight.symm.trans hf) Bool.false_ne_true
  rcases grantsWon_cases (s := s) (x := x) (r := r) with hwon | ⟨c, hc, hsender, hb, hwon⟩
  · rw [hwon, List.append_nil] at hgrants
    refine ⟨by rw [hgrants, hstore]; exact hfew.trans h.1, hflight', by rw [hgrants]; exact hslots, fun _ r' hr' g hg => ?_,
      fun hne => ?_⟩
    · rw [hgrants] at hg
      obtain rfl : (judge s.number x r).record = r' := by simpa [hrecord] using hr'
      rw [hnumber]
      exact hkept g hg
    · rcases hplace with hp | hp | hp | ⟨hnil, -⟩
      · exact .inl hp
      · exact .inr (.inl hp)
      · exact .inr (.inr hp)
      · rw [hgrants, hnil] at hne
        exact absurd rfl hne
  · rw [hwon] at hgrants
    obtain ⟨hwinner, f, d, hf, hbody, hok, he, hjr, -⟩ := claimed_of_mem_judge hc hb
    obtain ⟨hmem, -, -⟩ := (entryNamed_iff (afterAbstentions_ordered ho x.fields)).mp he
    refine ⟨?_, hflight', ?_, fun _ r' hr' g hg => ?_, fun _ => ?_⟩
    · rw [hgrants, hstore, List.length_append, List.length_singleton]
      exact Nat.lt_of_le_of_lt hfew (hroom ⟨f, d, hf, hbody⟩ hsender)
    · rw [hgrants, List.map_append, List.nodup_append]
      refine ⟨hslots, List.nodup_singleton _, fun k hk k' hk' heq => ?_⟩
      obtain ⟨g, hg, rfl⟩ := List.mem_map.mp hk
      obtain rfl := List.mem_singleton.mp hk'
      exact grant_slot_ne_won h hj hr ho hown hc hb g (List.mem_filter.mp hg).1 heq
    · rw [hgrants] at hg
      obtain rfl : (judge s.number x r).record = r' := by simpa [hrecord] using hr'
      rw [hnumber]
      rcases List.mem_append.mp hg with hg | hg
      · exact hkept g hg
      · obtain rfl := List.mem_singleton.mp hg
        refine ⟨{ c.entry with claimant := some s.number }, ?_, rfl, rfl, rfl⟩
        rw [hjr]
        exact List.mem_map.mpr ⟨c.entry, hmem, if_pos rfl⟩
    · rcases hplace with hp | hp | hp | ⟨-, hno⟩
      · exact .inl hp
      · exact .inr (.inl hp)
      · exact .inr (.inr hp)
      · exact absurd hb (hno c hc)

end

/-! ### A station's own departure (R60, R114, R133, R150) -/

theorem accountsSound_claimDeparts {s : State} (h : AccountsSound s) : AccountsSound (claimDeparts s) := by
  have hended : (s.claim.grants.filterMap grantDeparting).length =
      (s.claim.grants.filter (fun g => g.state != .unread)).length := by
    rw [List.length_filterMap_eq_countP, ← List.countP_eq_length_filter]
    refine List.countP_congr fun g _ => ?_
    unfold grantDeparting
    cases g.state <;> simp
  refine accountsSound_of_posted h _ rfl (by simp [claimDeparts]) rfl ?_ (List.Sublist.refl _)
  unfold reservationsDue
  rw [leaveHeld_congr (claimDeparts_frame s).2.2.2.2.1, (claimDeparts_frame s).2.2.2.2.2.1, hended]
  change _ + ([] : List Grant).length + _ + _ = _
  simp only [List.length_nil]
  omega

theorem accountsSound_originDeparts {s : State} (h : AccountsSound s) : AccountsSound (originDeparts s) := by
  have hsplit : s.origin.raises.length = (s.origin.raises.filter (fun r => r.state == .queued)).length +
      (s.origin.raises.filter (fun r => r.state != .queued)).length := by
    rw [List.length_eq_length_filter_add (fun r : RaiseRecord => r.state == .queued)]
    rfl
  refine accountsSound_of_posted h (s.origin.raises.filter (fun r => r.state != .queued)).length
    (by simp [originDeparts]) (by simp [originDeparts]) (by simp [originDeparts]) ?_ ?_
  · unfold reservationsDue
    rw [leaveHeld_congr (originDeparts_frame s).2.2.2.2.1, (originDeparts_frame s).2.2.2.2.2.1]
    simp only [originDeparts, postCompletions, State.setPort_origin, State.setOrigin_origin, List.length_map]
    omega
  · simp only [originDeparts, postCompletions, State.setPort_origin, State.setOrigin_origin, List.map_map]
    exact List.filter_sublist.map RaiseRecord.id

theorem accountsSound_selfDeparts {s : State} (h : AccountsSound s) : AccountsSound (selfDeparts s) :=
  accountsSound_of_same (accountsSound_originDeparts (accountsSound_claimDeparts ((Booked.emptyAgenda s).accounts h)))
    rfl rfl (accountsSound_originDeparts (accountsSound_claimDeparts ((Booked.emptyAgenda s).accounts h))).2.2.1 rfl rfl rfl

theorem selfDeparts_grants (s : State) : (selfDeparts s).claim.grants = [] := by
  change (originDeparts (claimDeparts (emptyAgenda s))).claim.grants = []
  rw [(originDeparts_frame _).2.2.2.2.2.1]
  simp [claimDeparts]

/-- What a departing station still goes by: what the bus observes, the agenda, the accounts and the room for a CLAIM in
flight. -/
structure Parting (s : State) : Prop where
  observing : Observing s
  agenda : AgendaSound s
  accounts : AccountsSound s
  flight : claimInFlight s = true → 0 < s.port.store.d ∧ s.port.store.locked = true

theorem Parting.of_booked {s t : State} (h : Parting s) (b : Booked s t) : Parting t where
  observing := h.observing.of_reacts b.reacts
  agenda := b.reacts.sound h.agenda
  accounts := b.accounts h.accounts
  flight := by
    rw [claimInFlight_congr (show t.bus.attempt = s.bus.attempt by rw [b.reacts.bus]), b.reacts.host.store]
    exact h.flight

/-- No copy is kept and no grant: what the bus observes and the agenda are all there is. -/
theorem Parting.steady_selfDeparts {s : State} (h : Parting s) : Steady (selfDeparts s) := by
  obtain ⟨-, hbus, hrecord, hagenda, hcontrol, -⟩ := selfDeparts_frame s
  have hstore := ((SameHostSide.selfDeparts (s := s)).mpr (.refl s)).store
  refine ⟨fun r hr => ?_, h.observing.of_blocks hbus (by rw [hcontrol]) (by rw [hagenda]),
    agendaSound_nil (by rw [hagenda]) (by rw [hstore]; exact h.agenda.2.2), ?_⟩
  · rw [hrecord] at hr
    cases hr
  · rw [grantsSound_iff, selfDeparts_grants]
    refine handlesSound_nil ?_
    rw [claimInFlight_congr (show (selfDeparts s).bus.attempt = s.bus.attempt by rw [hbus]), hstore]
    exact h.flight

/-! ### All of it beside the place, the request line and the sent purpose -/

/-- What holds of the station as its blocks react to an attempt that has ended, the sent purpose still noted. -/
structure Reacting (s : State) : Prop extends Steady s where
  accounts : AccountsSound s

namespace Parting

variable {s : State}

theorem withRecord (h : Parting s) (r : Option Record) : Parting (s.setRecord r) :=
  ⟨h.observing.of_blocks rfl rfl rfl, agendaSound_of_same h.agenda rfl rfl rfl,
    accountsSound_of_same h.accounts rfl rfl h.accounts.2.2.1 rfl rfl rfl, h.flight⟩

/-- OFFLINE with LEFT at a station that holds a LEAVE (R114). -/
theorem leaveEnds_selfDeparts (h : Parting s) (hc : s.control.cause.isSome → s.control.state = .departing)
    (hheld : leaveHeld s = true) : Reacting (leaveEnds (selfDeparts s)) := by
  have hsteady := h.steady_selfDeparts.of_reacts (.postCompletions [.leaveLeft] _) (by simp)
  obtain ⟨-, -, -, -, hcontrol, -⟩ := selfDeparts_frame s
  refine ⟨hsteady.changeState_off (by simp [selfDeparts_grants]) (.inl rfl), ?_⟩
  obtain ⟨-, -, hclaim, hport, -⟩ := changeState_frame .offline (postCompletions [.leaveLeft] (selfDeparts s))
  refine accountsSound_leaveEnded (accountsSound_selfDeparts h.accounts) ((leaveHeld_congr hcontrol).trans hheld)
    (leaveHeld_changeState (s := postCompletions [.leaveLeft] (selfDeparts s)) ?_ .offline) .leaveLeft ?_
    (changeState_ids .offline (postCompletions [.leaveLeft] (selfDeparts s))) (by
      rw [leaveEnds, hclaim]
      rfl)
  · change (selfDeparts s).control.cause.isSome → (selfDeparts s).control.state = .departing
    rw [hcontrol]
    exact hc
  · rw [leaveEnds, hport]
    exact ⟨rfl, rfl, rfl⟩

/-- LISTEN with the backoff timer at a station that holds no LEAVE (R114). -/
theorem listen_selfDeparts (h : Parting s) (hoff : ¬s.off) (hheld : leaveHeld s = false)
    (hc : s.control.cause.isSome → s.control.state = .departing) :
    Reacting (listenWithBackoff (selfDeparts s)) := by
  have hsteady := h.steady_selfDeparts
  obtain ⟨-, -, -, -, hcontrol, -⟩ := selfDeparts_frame s
  refine ⟨hsteady.listenWithBackoff (by rw [State.off, hcontrol]; exact hoff) (selfDeparts_grants s), ?_⟩
  have hwait : AccountsSound (startBackoff .listen (selfDeparts s)) :=
    accountsSound_of_same (accountsSound_selfDeparts h.accounts) rfl rfl (accountsSound_selfDeparts h.accounts).2.2.1
      rfl rfl rfl
  refine accountsSound_changeState .listen hwait ?_
  rw [leaveHeld_changeState (s := startBackoff .listen (selfDeparts s))]
  · refine Eq.trans ?_ (((leaveHeld_congr hcontrol).trans hheld).symm)
    rfl
  · change (selfDeparts s).control.cause.isSome → (selfDeparts s).control.state = .departing
    rw [hcontrol]
    exact hc

theorem ownDeparture (h : Parting s) (hj : s.judging) (hc : s.control.Fits) (cause : DepartureCause) :
    Reacting (ownDeparture cause s) := by
  have hposted : Booked s (postFault .evicted (some s.number) none none none s) := .postFault _ _ _ _ _ s
  have hcontrol := hposted.reacts.control
  have hp := h.of_booked hposted
  unfold Machine.ownDeparture
  split
  · rename_i hs
    have hheld : leaveHeld s = true := by simp [leaveHeld, hs]
    cases cause
    · exact h.leaveEnds_selfDeparts hc.cause.mp hheld
    all_goals
      exact hp.leaveEnds_selfDeparts (by rw [hcontrol]; exact hc.cause.mp) ((leaveHeld_congr hcontrol).trans hheld)
  · rename_i hs
    refine hp.listen_selfDeparts (by rw [State.off, hcontrol]; exact notOff_of_judging hj) ?_
      (by rw [hcontrol]; exact hc.cause.mp)
    rw [leaveHeld_congr hcontrol]
    exact leaveHeld_eq_false hc ⟨hs, by rcases hj with hj | hj | hj <;> simp [hj]⟩

end Parting

namespace Reacting

variable {s t : State}

theorem of_booked (h : Reacting s) (b : Booked s t) : Reacting t :=
  ⟨h.toSteady.of_reacts b.reacts b.grants, b.accounts h.accounts⟩

/-- The membership controller changes within its state, and a held LEAVE stays held. -/
theorem of_control (h : Reacting s) {c : Control} (hstate : c.state = s.control.state)
    (hcause : c.cause = s.control.cause) : Reacting (s.setControl c) where
  toSteady := h.toSteady.of_same rfl rfl rfl rfl hstate rfl rfl
  accounts := accountsSound_of_same h.accounts rfl rfl h.accounts.2.2.1 rfl rfl (by
    unfold leaveHeld
    rw [State.setControl_control, hstate, hcause])

/-- A change of state from LISTEN, FOUNDING or JOINING. -/
theorem moves (h : Reacting s) (hc : s.control.cause.isSome → s.control.state = .departing)
    (hs : s.control.state = .listen ∨ s.control.state = .founding ∨ s.control.state = .joining) {new : StationState}
    (hnew : new ≠ .offline ∧ new ≠ .leaving) : Reacting (changeState new s) := by
  have hnil : s.claim.grants = [] := grants_eq_nil h.grants (by rcases hs with hs | hs | hs <;> simp [hs])
  refine ⟨?_, accountsSound_changeState_of (s := s) h.accounts hc rfl rfl ?_ hnew.2⟩
  · by_cases hiso : new = .isolated
    · exact h.toSteady.changeState_off hnil (.inr hiso)
    · refine h.toSteady.changeState_on ?_ hnil ⟨hnew.1, hiso⟩
      rcases hs with hs | hs | hs <;> simp [State.off, hs]
  · rcases hs with hs | hs | hs <;> simp [hs]

/-! ### The judgement (R45, R61) -/

/-- The grants go with the state a judgement leads to: a joiner that wins a CLAIM has lost its snapshot. -/
theorem settled_place (h : Reacting s) (hj : s.judging) {x : Seen} {r : Record} {w : State}
    (hw : w.control = s.control) (b d : Bool) :
    let j := judge s.number x r
    let t := settleState j.diverged (snapshotLost s r j (closesSnapshot s r x j)) b d w
    t.control.state = .member ∨ t.control.state = .leaving ∨ t.control.state = .departing ∨
      (s.claim.grants = [] ∧ ∀ c ∈ j.changes, c.became ≠ .claimed s.number) := by
  intro j t
  have hstate := settleState_state j.diverged (snapshotLost s r j (closesSnapshot s r x j)) b d w
  rw [hw] at hstate
  change t.control.state = _ at hstate
  rw [hstate]
  by_cases hdep : (j.diverged || snapshotLost s r j (closesSnapshot s r x j) ||
      (b && s.control.state == .leaving)) = true
  · rw [if_pos hdep]
    exact .inr (.inr (.inl rfl))
  · rw [if_neg hdep]
    rcases hj with hs | hs | hs
    · refine .inr (.inr (.inr ⟨grants_eq_nil h.grants (by rw [hs]; decide), fun c hc hb => hdep ?_⟩))
      have hlost : snapshotLost s r j (closesSnapshot s r x j) = true := snapshotLost_of_claim hc hb hs
      simp [hlost]
    · simp [hs]
    · simp [hs]

theorem parting (h : Reacting s) : Parting s :=
  ⟨h.observing, h.agenda, h.accounts, (grantsSound_iff.mp h.grants).flight_nil⟩

/-- The reactions of a station that stays in the group, with its own change of state. -/
theorem judgementSettled (h : Reacting s) (hp : Placed s) (hj : s.judging) (hnone : s.bus.attempt = none) {r : Record}
    (hr : s.record = some r) {x : Seen} (hown : (judge s.number x r).own = none)
    (hroom : (∃ f d, x.frame = some f ∧ f.body = .claim d) → x.isSender = true →
      s.claim.grants.length < s.port.store.d) (b : Bool) :
    let j := judge s.number x r
    let lost := snapshotLost s r j (closesSnapshot s r x j)
    Reacting (settleState j.diverged lost b (closesSnapshot s r x j) (judgementReacted x j lost s)) := by
  intro j lost
  have hre : Reacts (s.setRecord (some j.record)) (judgementReacted x j lost s) := judgementReacted_reacts x j lost s
  have hpart := h.parting.withRecord (some j.record)
  have hw : (judgementReacted x j lost s).control = s.control := hre.control
  have hwj : (judgementReacted x j lost s).judging := by
    unfold State.judging
    rw [hw]
    exact hj
  obtain ⟨hnumber, hbus, hrecord, hclaim⟩ :=
    settleState_frame j.diverged lost b (closesSnapshot s r x j) (judgementReacted x j lost s)
  refine ⟨⟨fun r' hr' => ?_, observing_settleState (hpart.observing.of_reacts hre) hwj _ _ _ _,
    agendaSound_settleState (hre.sound hpart.agenda) _ _ _ _, ?_⟩,
    accountsSound_settleState (accountsSound_judgementReacted h.accounts x j lost) (by rw [hw]; exact hp.control) hwj
      _ _ _ _⟩
  · rw [hrecord, hre.record] at hr'
    obtain rfl : j.record = r' := Option.some.inj hr'
    exact judge_ordered (h.copy r hr) _ _
  · refine handlesSound_judged h.grants hj hr (h.copy r hr) hown hroom ?_ ?_ ?_ ?_ (h.settled_place hj hw _ _) ?_
    · exact ((SameHostSide.settleState (s := judgementReacted x j lost s) _ _ _ _).mpr (.refl _)).store.trans hre.host.store
    · unfold claimInFlight
      rw [hbus, hre.bus, State.setRecord_bus, hnone]
      rfl
    · rw [hnumber, hre.host.number]
      rfl
    · rw [hrecord, hre.record]
      rfl
    · rw [hclaim, judgementReacted_claim]

theorem memberJudges (h : Reacting s) (hp : Placed s) (hj : s.judging) (hnone : s.bus.attempt = none) {r : Record}
    (hr : s.record = some r) (a : Attempt)
    (hroom : (∃ f d, (seenOf s.number a).frame = some f ∧ f.body = .claim d) → (seenOf s.number a).isSender = true →
      s.claim.grants.length < s.port.store.d) : Reacting (memberJudges a r s) := by
  cases hown : (judge s.number (seenOf s.number a) r).own with
  | some cause =>
    rw [memberJudges_of_own hown]
    have hb := Booked.postDepartures (judge s.number (seenOf s.number a) r).departures
      (s.setRecord (some (judge s.number (seenOf s.number a) r).record))
    have hcontrol := hb.reacts.control
    refine ((h.parting.withRecord _).of_booked hb).ownDeparture ?_ ?_ cause
    · unfold State.judging
      rw [hcontrol]
      exact hj
    · rw [hcontrol]
      exact hp.control
  | none =>
    rw [memberJudges_of_stays hown]
    exact (h.judgementSettled hp hj hnone hr hown hroom _).of_booked ((Booked.updateDuty _).trans (.updateWant _))

/-! ### The other states -/

theorem departingEnds (h : Reacting s) (hc : s.control.Fits) (hs : s.control.state = .departing) (a : Attempt) :
    Reacting (departingEnds a s) := by
  unfold Machine.departingEnds
  split
  · have hleave : ∀ c, s.control.cause = c → leaveHeld s = (c == some .leave) := by
      intro c hcause
      simp [leaveHeld, hs, hcause]
    have hoff : ¬s.off := by simp [State.off, hs]
    split
    · rename_i hcause
      exact h.parting.leaveEnds_selfDeparts hc.cause.mp (hleave _ hcause)
    all_goals
      rename_i hcause
      exact h.parting.listen_selfDeparts hoff (hleave _ hcause) hc.cause.mp
  · dsimp only
    split
    · exact (h.of_booked (.dropSent s)).of_control rfl rfl
    · exact h.of_control rfl rfl

/-- A station that does not judge yet loads a copy. -/
theorem loads (h : Reacting s) (hs : ¬s.judging) {r : Record} (ho : r.Ordered) : Reacting (s.setRecord (some r)) where
  copy r' hr' := by
    obtain rfl : r = r' := by simpa using hr'
    exact ho
  observing := h.observing.of_blocks rfl rfl rfl
  agenda := agendaSound_of_same h.agenda rfl rfl rfl
  grants := ⟨h.grants.1, h.grants.2.1, h.grants.2.2.1, fun hj => absurd hj hs, h.grants.2.2.2.2⟩
  accounts := accountsSound_of_same h.accounts rfl rfl h.accounts.2.2.1 rfl rfl rfl

theorem foundingMarked (h : Reacting s) (a : Attempt) : Reacting (foundingMarked a s) := by
  rw [foundingMarked_eq]
  exact h.of_control rfl rfl

theorem foundingEnds (h : Reacting s) (hc : s.control.cause.isSome → s.control.state = .departing)
    (hs : s.control.state = .founding) (a : Attempt) : Reacting (foundingEnds a s) := by
  have h₁ := h.foundingMarked a
  have hs₁ : (Machine.foundingMarked a s).control.state = .founding := by
    rw [foundingMarked_eq]
    exact hs
  have hc₁ : (Machine.foundingMarked a s).control.cause.isSome →
      (Machine.foundingMarked a s).control.state = .departing := by
    rw [foundingMarked_eq]
    exact hc
  by_cases hfound : ∃ f ∈ a.driven, ∃ p, f.body = .found p
  · obtain ⟨f, hd, p, hb⟩ := hfound
    rw [foundingEnds_found hd hb]
    generalize Machine.foundingMarked a s = s₁ at h₁ hs₁ hc₁
    split
    · have hloaded := h₁.loads (by simp [State.judging, hs₁]) (r := foundedRecord s.number p) List.nodup_nil
      exact hloaded.moves hc₁ (.inr (.inl hs₁)) (by decide)
    · have hb := Booked.countSent false s₁
      have h₂ := h₁.of_booked hb
      split
      · refine Reacting.of_booked (h₂.moves ?_ (.inr (.inl ?_)) (by decide)) (.postFault _ _ _ _ _ _)
        · rw [hb.reacts.control]
          exact hc₁
        · rw [hb.reacts.control]
          exact hs₁
      · exact h₂
  · push Not at hfound
    rw [foundingEnds_other hfound]
    exact h₁

theorem replyHeard (h : Reacting s) (hc : s.control.cause.isSome → s.control.state = .departing)
    (hs : s.control.state = .joining) (f : Frame) (v : Verdict) (n : Nat) (p : Params) :
    Reacting (replyHeard f v n p s) := by
  cases v <;> unfold Machine.replyHeard <;> dsimp only
  case admitted =>
    have hloaded := h.loads (by simp [State.judging, hs]) (r := loadedRecord s.number f n p) List.nodup_nil
    exact hloaded.moves hc (.inr (.inr hs)) (by decide)
  case deferred =>
    have hreply : Reacting (s.setControl { s.control with joinReply := none }) := h.of_control rfl rfl
    exact (hreply.of_booked (.dropPurposes _ _)).of_control rfl rfl
  case mismatch | duplicate =>
    exact (h.moves hc (.inr (.inr hs)) (new := .isolated) (by decide)).of_booked (.postFault _ _ _ _ _ _)

theorem joiningEnds (h : Reacting s) (hc : s.control.cause.isSome → s.control.state = .departing)
    (hs : s.control.state = .joining) (a : Attempt) : Reacting (joiningEnds a s) := by
  by_cases hjoin : ∃ f ∈ a.driven, ∃ p, f.body = .join p
  · obtain ⟨f, hd, p, hb⟩ := hjoin
    rw [joiningEnds_join hd hb]
    split
    · have hdropped := h.of_booked (.dropPurposes (fun x => x == .join) s)
      exact hdropped.of_control rfl rfl
    · have hb := Booked.countSent false s
      have hcount := h.of_booked hb
      split
      · have hmoved := hcount.moves (new := .listen) (by rw [hb.reacts.control]; exact hc)
          (.inr (.inr (by rw [hb.reacts.control]; exact hs))) (by decide)
        have hnoted : Reacting ((changeState .listen (countSent false s)).setControl
            { (changeState .listen (countSent false s)).control with note := some 0 }) := hmoved.of_control rfl rfl
        exact hnoted.of_booked (.postFault _ _ _ _ _ _)
      · exact hcount
  · push Not at hjoin
    rcases joiningEnds_other hjoin s with heq | ⟨f, v, count, m, p, -, -, -, -, heq⟩ <;> rw [heq]
    · exact h
    · exact h.replyHeard hc hs _ _ _ _

theorem listenObserves (h : Reacting s) (hc : s.control.cause.isSome → s.control.state = .departing)
    (hs : s.control.state = .listen) (head : Option Frame) : Reacting (listenObserves head s) := by
  have hjoining : Reacting (Machine.changeState .joining s) := h.moves hc (.inl hs) (by decide)
  unfold Machine.listenObserves
  dsimp only
  split
  · split
    · exact h.of_control rfl rfl
    · exact h
  · split
    · exact h.of_control rfl rfl
    · exact hjoining
    · split
      · exact h.of_control rfl rfl
      · exact hjoining

theorem attemptObserved (h : Reacting s) (hp : Placed s) (hnone : s.bus.attempt = none) (a : Attempt)
    (hroom : (∃ f d, (seenOf s.number a).frame = some f ∧ f.body = .claim d) → (seenOf s.number a).isSender = true →
      s.claim.grants.length < s.port.store.d) : Reacting (attemptObserved a s) := by
  have hc := hp.control
  unfold Machine.attemptObserved
  split
  case h_1 hs | h_2 hs | h_3 hs =>
    split
    · rename_i r hr
      exact h.memberJudges hp (by simp [State.judging, hs]) hnone hr a hroom
    · exact h
  case h_4 hs => exact h.departingEnds hc hs a
  case h_5 hs => exact h.foundingEnds hc.cause.mp hs a
  case h_6 hs => exact h.joiningEnds hc.cause.mp hs a
  case h_7 hs => exact h.listenObserves hc.cause.mp hs _
  all_goals exact h

end Reacting

end Sys2Proof.Machine
end


section
/-! Every step keeps the station sound, and a reset makes it so (R22, R24, R84, R94). -/

set_option Elab.async false

namespace Sys2Proof.Machine

/-! ### The sent purpose at the end of an attempt (R84) -/

theorem listenWithBackoff_sent (s : State) : (listenWithBackoff s).agenda.sent = s.agenda.sent :=
  changeState_sent .listen (startBackoff .listen s)

theorem selfDeparts_sent (s : State) : (selfDeparts s).agenda.sent = s.agenda.sent := by
  rw [(selfDeparts_frame s).2.2.2.1]

theorem leaveEnds_sent (s : State) : (leaveEnds s).agenda.sent = s.agenda.sent :=
  changeState_sent .offline (postCompletions [.leaveLeft] s)

theorem ownDeparture_sent (c : DepartureCause) (s : State) : (ownDeparture c s).agenda.sent = s.agenda.sent := by
  have hpost : (postFault .evicted (some s.number) none none none s).agenda.sent = s.agenda.sent :=
    (Reacts.postFault _ _ _ _ _ s).sent
  unfold ownDeparture
  split
  · cases c
    · exact (leaveEnds_sent _).trans (selfDeparts_sent s)
    all_goals exact (leaveEnds_sent _).trans ((selfDeparts_sent _).trans hpost)
  · exact (listenWithBackoff_sent _).trans ((selfDeparts_sent _).trans hpost)

theorem memberJudges_sent (a : Attempt) (r : Record) (s : State) :
    (memberJudges a r s).agenda.sent = s.agenda.sent := by
  cases hown : (judge s.number (seenOf s.number a) r).own with
  | some cause =>
    rw [memberJudges_of_own hown, ownDeparture_sent]
    exact (Reacts.postDepartures _ _).sent
  | none =>
    rw [memberJudges_of_stays hown]
    exact ((Reacts.updateDuty _).trans (.updateWant _)).sent.trans
      ((settleState_sent _ _ _ _ _).trans (judgementReacted_reacts _ _ _ s).sent)

theorem departingEnds_sent (a : Attempt) (s : State) : (departingEnds a s).agenda.sent = s.agenda.sent := by
  unfold departingEnds
  split
  · split
    · exact (leaveEnds_sent _).trans (selfDeparts_sent s)
    all_goals exact (listenWithBackoff_sent _).trans (selfDeparts_sent s)
  · dsimp only
    split
    · exact (Reacts.dropSent s).sent
    · rfl

theorem foundingEnds_sent (a : Attempt) (s : State) : (foundingEnds a s).agenda.sent = s.agenda.sent := by
  have hmarked : (foundingMarked a s).agenda.sent = s.agenda.sent := by
    rw [foundingMarked_eq]
    rfl
  by_cases hfound : ∃ f ∈ a.driven, ∃ p, f.body = .found p
  · obtain ⟨f, hd, p, hb⟩ := hfound
    rw [foundingEnds_found hd hb]
    split
    · exact (changeState_sent .member ((foundingMarked a s).setRecord _)).trans hmarked
    · have hcount := (Reacts.countSent false (foundingMarked a s)).sent.trans hmarked
      split
      · exact (Reacts.postFault _ _ _ _ _ _).sent.trans ((changeState_sent .listen _).trans hcount)
      · exact hcount
  · push Not at hfound
    rw [foundingEnds_other hfound]
    exact hmarked

theorem replyHeard_sent (f : Frame) (v : Verdict) (n : Nat) (p : Params) (s : State) :
    (replyHeard f v n p s).agenda.sent = s.agenda.sent := by
  cases v <;> unfold replyHeard <;> dsimp only
  case admitted => exact changeState_sent .syncing (s.setRecord _)
  case deferred => exact (Reacts.dropPurposes (fun x => x == .join) (s.setControl { s.control with joinReply := none })).sent
  case mismatch | duplicate => exact (Reacts.postFault _ _ _ _ _ _).sent.trans (changeState_sent .isolated s)

theorem joiningEnds_sent (a : Attempt) (s : State) : (joiningEnds a s).agenda.sent = s.agenda.sent := by
  by_cases hjoin : ∃ f ∈ a.driven, ∃ p, f.body = .join p
  · obtain ⟨f, hd, p, hb⟩ := hjoin
    rw [joiningEnds_join hd hb]
    split
    · exact (Reacts.dropPurposes (fun x => x == .join) s).sent
    · have hcount := (Reacts.countSent false s).sent
      split
      · exact (Reacts.postFault _ _ _ _ _ _).sent.trans ((changeState_sent .listen (countSent false s)).trans hcount)
      · exact hcount
  · push Not at hjoin
    rcases joiningEnds_other hjoin s with heq | ⟨f, v, count, m, p, -, -, -, -, heq⟩ <;> rw [heq]
    exact replyHeard_sent _ _ _ _ s

theorem listenObserves_sent (head : Option Frame) (s : State) :
    (listenObserves head s).agenda.sent = s.agenda.sent := by
  unfold listenObserves
  dsimp only
  split
  · split <;> rfl
  · split
    · rfl
    · exact changeState_sent .joining s
    · split
      · rfl
      · exact changeState_sent .joining s

/-- The sent purpose stays noted until the attempt has been reported on (R84). -/
theorem attemptObserved_sent (a : Attempt) (s : State) : (attemptObserved a s).agenda.sent = s.agenda.sent := by
  unfold attemptObserved
  split
  case h_1 | h_2 | h_3 =>
    split
    · exact memberJudges_sent a _ s
    · rfl
  case h_4 => exact departingEnds_sent a s
  case h_5 => exact foundingEnds_sent a s
  case h_6 => exact joiningEnds_sent a s
  case h_7 => exact listenObserves_sent _ s
  all_goals rfl

/-! ### The end of an attempt (R24, R40) -/

theorem pointAfter_frame (a : Attempt) (b : Bus) :
    (pointAfter a b).attempt = b.attempt ∧ (pointAfter a b).observing = b.observing ∧
      (pointAfter a b).awaitRest = b.awaitRest ∧ (pointAfter a b).request = b.request ∧
      (pointAfter a b).arbitrating = b.arbitrating ∧ (pointAfter a b).requestChanged = b.requestChanged := by
  unfold pointAfter
  split
  · exact ⟨rfl, rfl, rfl, rfl, rfl, rfl⟩
  · split <;> exact ⟨rfl, rfl, rfl, rfl, rfl, rfl⟩

/-- The station as an attempt it observed has ended, before anything is made of it (R28, R94). -/
def attemptPast (a : Attempt) (s : State) : State :=
  restartIdle (s.setBus { pointAfter a s.bus with attempt := none })

theorem attemptEnds_eq (ws : List Word16) (a : Attempt) (s : State) :
    attemptEnds ws a s =
      let b : Attempt := { a with responses := ws }
      let t := postDuplicate (ownNumberSeen s.number b) (attemptObserved b (attemptPast b s))
      updateRequest (if a.driven.isSome then clearSent t else t) := rfl

theorem Running.attemptPast {s : State} (h : Running s) {a : Attempt} (ha : s.bus.attempt = some a)
    (hkeep : a.discard = false) (b : Attempt) : Reacting (attemptPast b s) := by
  obtain ⟨-, hobserving, hrest, -⟩ := pointAfter_frame b s.bus
  have hobs : s.bus.observing = true := h.observing.attempt (by rw [ha]; rfl)
  have hon : ¬(s.off ∨ s.bus.awaitRest = true) := fun hoff => by
    have := (h.observing.discard a ha).mpr hoff
    rw [hkeep] at this
    exact Bool.false_ne_true this
  refine ⟨⟨recordSound_of_same h.copy rfl, ?_, agendaSound_of_same h.agenda rfl rfl rfl, h.grants.1,
    fun hf => absurd hf Bool.false_ne_true, h.grants.2.2⟩,
    accountsSound_of_same h.accounts rfl rfl h.accounts.2.2.1 rfl rfl rfl⟩
  exact ⟨fun hsome => absurd hsome Bool.false_ne_true, fun x hx => absurd hx (by simp [Machine.attemptPast, restartIdle]),
    fun hoff => absurd (.inl hoff) hon, fun _ => hobserving.trans hobs, fun _ => .inl (hobserving.trans hobs)⟩

namespace Sound

variable {s t : State}

/-- The room a CLAIM was sent with is there as its attempt ends (R137). -/
theorem room_of_claimSeen (h : Sound s) {a : Attempt} (ha : s.bus.attempt = some a) (ws : List Word16)
    (hclaim : ∃ f d, (seenOf s.number { a with responses := ws }).frame = some f ∧ f.body = .claim d)
    (hsender : (seenOf s.number { a with responses := ws }).isSender = true) :
    s.claim.grants.length < s.port.store.d := by
  obtain ⟨f, d, hf, hbody⟩ := hclaim
  refine (h.running.grants.2.1 ?_).1
  unfold claimInFlight
  rw [ha]
  cases hd : a.driven with
  | none =>
    change a.driven.isSome = true at hsender
    rw [hd] at hsender
    exact absurd hsender Bool.false_ne_true
  | some g =>
    obtain rfl : g = f := by simpa [seenOf, hd] using hf
    simp [hd, hbody]

theorem attemptEnds (h : Sound s) {a : Attempt} (ha : s.bus.attempt = some a) (hkeep : a.discard = false)
    (ws : List Word16) : Sound (attemptEnds ws a s) := by
  have hplaced := h.placed.attemptEnds ws a
  have hpast := h.running.attemptPast ha hkeep { a with responses := ws }
  have hseen := hpast.attemptObserved (h.placed.of_blocks rfl rfl rfl rfl) rfl { a with responses := ws }
    (h.room_of_claimSeen ha ws)
  have hdup := Booked.postDuplicate (ownNumberSeen s.number { a with responses := ws })
    (attemptObserved { a with responses := ws } (attemptPast { a with responses := ws } s))
  have hall := hseen.of_booked hdup
  have hsent := hdup.reacts.sent.trans ((attemptObserved_sent _ _).trans (show _ = s.agenda.sent from rfl))
  rw [attemptEnds_eq] at hplaced ⊢
  refine of_update hplaced ?_
  cases hd : a.driven.isSome with
  | true =>
    rw [if_pos rfl]
    exact ⟨⟨recordSound_of_same hall.copy rfl, hall.observing.of_blocks rfl rfl rfl,
      agendaSound_of_same hall.agenda rfl rfl rfl, grantsSound_of_same hall.grants rfl rfl rfl rfl rfl rfl⟩,
      fun hs => absurd hs Bool.false_ne_true,
      accountsSound_of_same hall.accounts rfl rfl hall.accounts.2.2.1 rfl rfl rfl⟩
  | false =>
    rw [if_neg Bool.false_ne_true]
    refine ⟨hall.toSteady, fun hs => ?_, hall.accounts⟩
    rw [hsent] at hs
    have hsending := h.running.sent hs
    unfold sending at hsending
    rw [ha, Option.any_some, hd] at hsending
    exact absurd hsending Bool.false_ne_true

theorem discardAttempt (h : Sound s) {a : Attempt} (ha : s.bus.attempt = some a) (hgone : a.discard = true) :
    Sound (discardAttempt s) := by
  have hrun := h.running
  refine sound_iff.mpr ⟨h.placed.of_blocks rfl rfl rfl rfl, rfl, ⟨recordSound_of_same hrun.copy rfl, ?_,
    agendaSound_of_same hrun.agenda rfl rfl rfl, hrun.grants.1, fun hf => absurd hf Bool.false_ne_true, hrun.grants.2.2⟩,
    fun hs => absurd hs Bool.false_ne_true, accountsSound_of_same hrun.accounts rfl rfl hrun.accounts.2.2.1 rfl rfl rfl⟩
  refine ⟨fun hsome => absurd hsome Bool.false_ne_true, fun x hx => absurd hx (by simp [Machine.discardAttempt, stopIdle, clearSent]),
    fun hoff => ⟨(hrun.observing.off hoff).1, fun _ => rfl⟩, fun hi => absurd hi Bool.false_ne_true, fun hon => .inr ?_⟩
  exact ((hrun.observing.discard a ha).mp hgone).resolve_left hon

theorem finishAttempt (h : Sound s) {a : Attempt} (ha : s.bus.attempt = some a) (ws : List Word16) :
    Sound (finishAttempt ws a s) := by
  unfold Machine.finishAttempt
  split
  · exact h.discardAttempt ha ‹_›
  · rename_i hkeep
    exact h.attemptEnds ha (by simpa using hkeep) ws

/-! ### Every step -/

theorem powerOnReset (n : Station) (levels : Word16) (pending : List Instr) : Sound { State.reset with
    number := n, origin := { Origin.reset with levels := levels }, pending := pending } := by
  refine sound_iff.mpr ⟨Placed.powerOnReset n levels pending, rfl, ⟨fun r hr => absurd hr (by simp [State.reset]),
    ⟨fun h => absurd h Bool.false_ne_true, fun a ha => absurd ha (by simp [State.reset, Bus.reset]), fun _ => ⟨rfl, fun _ => rfl⟩,
      fun h => absurd h Bool.false_ne_true, fun h => absurd (.inl rfl) h⟩,
    agendaSound_nil rfl (show 1 ≤ Port.reset.store.l by decide), ?_⟩, fun h => absurd h Bool.false_ne_true, ?_⟩
  · exact grantsSound_iff.mpr (handlesSound_nil fun h => absurd h Bool.false_ne_true)
  · exact ⟨rfl, Nat.zero_le 16, Nat.zero_le 8, Nat.zero_le 8, List.nodup_nil⟩

theorem exec (h : Sound s) {c : Instr} (ht : exec c s = .next t) : Sound t := by
  cases c
  case idleTimerExpiry => exact h.idleTimerExpiry ht
  case departingWaitExpiry => exact h.departingWaitExpiry ht
  case quietTimerExpiry => exact h.quietTimerExpiry ht
  case joinReplyTimerExpiry => exact h.joinReplyTimerExpiry ht
  case backoffTimerExpiry => exact h.backoffTimerExpiry ht
  case setAsideTimerExpiry => exact h.setAsideTimerExpiry ht
  case serviceTimerExpiry => exact h.serviceTimerExpiry ht
  all_goals
    change Host.Outcome.next _ = _ at ht
    cases ht
  case powerOnReset n => exact powerOnReset _ _ _
  case set => exact (h.takeCommand _).commandSet
  case start => exact (h.takeCommand _).commandStart
  case restart => exact (h.takeCommand _).commandRestart
  case leave => exact (h.takeCommand _).commandLeave
  case pause => exact (h.takeCommand _).commandPause _
  case resume => exact (h.takeCommand _).commandPause _
  case readGrant => exact (h.takeCommand _).commandReadGrant
  case finish => exact (h.takeCommand _).commandFinish
  case raise => exact (h.takeCommand _).commandRaise
  case enableLine => exact (h.takeCommand _).commandEnableLine
  case readCompletion => exact (h.takeCommand _).commandReadCompletion
  case readFault => exact (h.takeCommand _).commandReadFault
  case inspect => exact (h.takeCommand _).commandInspect
  case status => exact (h.takeCommand _).commandStatus
  case unknownCommand code => exact h.writeCommand code
  case irqMaskWrite v => exact sound_setPort h rfl rfl rfl rfl
  case windowWrite loc v => exact h.writeWindow loc v
  case eventLineChange n level => exact h.eventLineChange n level
  case busAtRest =>
    split
    · exact h.busAtRest ‹_›
    · exact h
  case arbitrationOpen others =>
    split
    · exact h.arbitrationOpen
    · exact h
  case arbitrationClose lines =>
    split
    · exact h.arbitrationClose ‹_› lines
    · exact h
  case frameEnd words =>
    split
    · exact h
    · split
      · exact h
      · exact h.frameEnd ‹_› words
  case attemptEnd w0 w1 w2 w3 =>
    split
    · exact h
    · split
      · exact h.finishAttempt ‹_› _
      · exact h
  case attemptBroken strobed =>
    split
    · exact h
    · exact h.finishAttempt ‹_› _

theorem setPending (h : Sound s) (cs : List Instr) : Sound (s.setPending cs) := h

theorem step (h : Sound s) (ht : step s = .next t) : Sound t := by
  unfold Machine.step at ht
  split at ht
  · cases ht
    exact sound_setPort h rfl rfl rfl rfl
  · rename_i rest _
    exact exec (h.setPending rest) ht

end Sound

end Sys2Proof.Machine

namespace Sys2Proof.Proofs

open Sys2Proof.Machine

/-- Settles O60: soundness in its parts, each kept by every command. -/
theorem everyStepKeepsTheStationSound : Obligations.EveryStepKeepsTheStationSound :=
  fun _ _ h ht => h.step ht

/-- Settles O58. -/
theorem soundAtReset : Obligations.SoundAtReset := Sound.powerOnReset State.reset.number Origin.reset.levels []

end Sys2Proof.Proofs
end


section
/-! The command that ends an attempt, in terms of what is made of the attempt by the station state (R34, R40). -/

set_option Elab.async false

namespace Sys2Proof.Machine

/-- The attempt with the response words its end leaves read (R34). -/
def ended (a : Attempt) (c : Instr) : Attempt := { a with responses := responsesOf a c }

/-- What the station makes of an attempt that the command c ends, before the report of its own number. -/
def attemptMade (a : Attempt) (c : Instr) (s : State) : State := attemptObserved (ended a c) (attemptPast (ended a c) s)

theorem exec_endsAttempt {s : State} {a : Attempt} {c : Instr} (ha : s.bus.attempt = some a) (hc : endsAttempt a c) :
    exec c s = .next (finishAttempt (responsesOf a c) a s) := by
  rcases hc with ⟨hframed, w0, w1, w2, w3, rfl⟩ | ⟨ws, rfl⟩
  · change execAttemptEnd w0 w1 w2 w3 s = _
    unfold execAttemptEnd
    rw [ha]
    simp [hframed, responsesOf]
  · change execAttemptBroken ws s = _
    unfold execAttemptBroken
    rw [ha]
    rfl

theorem EndsWith.exec {s : State} {a : Attempt} {c : Instr} (h : EndsWith s a c) :
    exec c s = .next (attemptEnds (responsesOf a c) a s) := by
  obtain ⟨ha, hkeep, hc⟩ := h
  rw [exec_endsAttempt ha hc]
  unfold finishAttempt
  rw [hkeep]
  rfl

/-! ### The end of an attempt, block by block -/

section

variable (s : State) (a : Attempt) (c : Instr)

theorem attemptEnds_eq_made : attemptEnds (responsesOf a c) a s =
    let t := postDuplicate (ownNumberSeen s.number (ended a c)) (attemptMade a c s)
    updateRequest (if a.driven.isSome then clearSent t else t) := rfl

theorem attemptEnds_blocks : let t := attemptEnds (responsesOf a c) a s
    let u := attemptMade a c s
    t.number = u.number ∧ t.record = u.record ∧ t.control = u.control ∧ t.origin = u.origin ∧ t.claim = u.claim ∧
      t.pending = u.pending ∧
      t.agenda = { u.agenda with sent := if a.driven.isSome then none else s.agenda.sent } ∧
      t.port = (postDuplicate (ownNumberSeen s.number (ended a c)) u).port := by
  have hsent : (attemptMade a c s).agenda.sent = s.agenda.sent := attemptObserved_sent _ _
  dsimp only
  rw [attemptEnds_eq_made]
  split
  · simp [clearSent]
  · rw [← hsent]
    simp

/-- Beside the request line the bus is left as what is made of the attempt leaves it. -/
theorem attemptEnds_bus : (attemptEnds (responsesOf a c) a s).bus =
    (attemptMade a c s).bus.requestAs (attemptEnds (responsesOf a c) a s).bus := by
  rw [attemptEnds_eq_made]
  split <;> simp [updateRequest, Bus.requestAs]

end

/-! ### What is handed to the group record unit (R40) -/

theorem frameOf_eq_seen (n : Station) (a : Attempt) (c : Instr) : (seenOf n (ended a c)).frame = frameOf a := rfl

theorem headOf_eq_readable (a : Attempt) (c : Instr) : readableFrame (ended a c) = headOf a := rfl

theorem judgementOf_eq (s : State) (a : Attempt) (c : Instr) (r : Record) :
    judgementOf s a c r = judge s.number (seenOf s.number (ended a c)) r := by
  unfold judgementOf
  refine congrArg (fun why => judge s.number { (seenOf s.number (ended a c)) with refusal := why } r) ?_
  change _ = (match a.answer with
    | some (.refuse why) => if ownWordStrobed s.number (ended a c) then some why else none
    | _ => none)
  rcases ha : a.answer with - | - | - | why | -
  case some.refuse => by_cases hw : s.number.val / 4 < (responsesOf a c).length <;> simp [ownWordStrobed, ended, hw]
  all_goals rfl

theorem joinsIn_iff {n : Station} {r : Record} : JoinsIn n r ↔ isJoiner n r = true := by
  unfold JoinsIn isJoiner
  cases r.join <;> simp

theorem attemptMade_of_judging {s : State} {a : Attempt} {c : Instr} (hs : s.judging) {r : Record}
    (hr : s.record = some r) : attemptMade a c s = memberJudges (ended a c) r (attemptPast (ended a c) s) := by
  have hr' : (attemptPast (ended a c) s).record = some r := hr
  unfold attemptMade attemptObserved
  rw [hr']
  have hstate : (attemptPast (ended a c) s).control.state = s.control.state := rfl
  rcases hs with hs | hs | hs <;> rw [hstate, hs]

/-! ### Where a judgement leaves the copy (R58, R60) -/

theorem ownDeparture_record (cause : DepartureCause) (s : State) : (ownDeparture cause s).record = none := by
  have hleaves : ∀ u, (leaveEnds (selfDeparts u)).record = none := fun u =>
    (changeState_frame .offline (postCompletions [.leaveLeft] (selfDeparts u))).2.1.trans (selfDeparts_frame u).2.2.1
  have hlistens : ∀ u, (listenWithBackoff (selfDeparts u)).record = none := fun u =>
    (changeState_frame .listen (startBackoff .listen (selfDeparts u))).2.1.trans (selfDeparts_frame u).2.2.1
  unfold ownDeparture
  split
  · cases cause
    · exact hleaves s
    all_goals exact hleaves _
  · exact hlistens _

theorem ownDeparture_state (cause : DepartureCause) (s : State) : (ownDeparture cause s).control.state =
    if s.control.state = .leaving then .offline else .listen := by
  unfold ownDeparture
  split
  · cases cause <;> exact changeState_state _ _
  · exact changeState_state _ _

section

variable {s : State} {a : Attempt} {r : Record}

theorem memberJudges_own {cause : DepartureCause} (h : (judge s.number (seenOf s.number a) r).own = some cause) :
    (memberJudges a r s).record = none ∧
      (memberJudges a r s).control.state = if s.control.state = .leaving then .offline else .listen := by
  rw [memberJudges_of_own h]
  refine ⟨ownDeparture_record _ _, (ownDeparture_state _ _).trans ?_⟩
  have hcontrol := ((Booked.postDepartures (judge s.number (seenOf s.number a) r).departures
    (s.setRecord (some (judge s.number (seenOf s.number a) r).record)))).reacts.control
  unfold judgementPosted
  rw [hcontrol]
  rfl

theorem memberJudges_stays (h : (judge s.number (seenOf s.number a) r).own = none) :
    (memberJudges a r s).record = some (judge s.number (seenOf s.number a) r).record := by
  rw [memberJudges_of_stays h]
  refine ((Booked.updateDuty _).trans (.updateWant _)).reacts.record.trans ?_
  rw [(settleState_frame _ _ _ _ _).2.2.1, (judgementReacted_reacts _ _ _ _).record]
  rfl

end

/-! ### Two copies of one record (R20) -/

section

variable {m n : Station} {r : Record}

/-- What a frame's checks say does not depend on which station makes them, the joiner left out. -/
theorem contentOk_bystander (hm : isJoiner m r = false) (hn : isJoiner n r = false) (w : Station) (b : Body) :
    contentOk m w r b = contentOk n w r b := by
  cases b <;> simp [contentOk, replyOk, entryOk, closeOk, hm, hn]

/-- Nor does what it does to the copy. -/
theorem applyBody_bystander {t : Tally} (hm : isJoiner m t.record = false) (hn : isJoiner n t.record = false)
    (w : Station) (q : Tag) (b : Body) : applyBody m w q t b = applyBody n w q t b := by
  cases b <;> simp [applyBody, replyTakes, entryTakes, hm, hn]

theorem judge_record_bystander {x y : Seen} (hs : r.Stands) (hm : isJoiner m r = false) (hn : isJoiner n r = false)
    (hwinner : x.winner = y.winner) (hframe : x.frame = y.frame) (hfields : x.fields = y.fields) :
    (judge m x r).record = (judge n y r).record := by
  have hm' := isJoiner_afterAbstentions (fields := y.fields) hs hm
  have hn' := isJoiner_afterAbstentions (fields := y.fields) hs hn
  have happ : ∀ f, applies m x (abstainers r y.fields) (afterAbstentions r y.fields).record f =
      applies n y (abstainers r y.fields) (afterAbstentions r y.fields).record f := by
    intro f
    unfold applies
    rw [hwinner, contentOk_bystander hm' hn']
  unfold judge
  dsimp only
  rw [hfields]
  split
  · rfl
  · split
    · unfold judgeTaken
      simp only [hframe, hwinner, funext happ]
      cases y.frame with
      | none => rfl
      | some f => simp only [applyBody_bystander hm' hn']
    · simp only [judgeFailed, hwinner, hfields]

end

end Sys2Proof.Machine

namespace Sys2Proof.Proofs

open Sys2Proof.Machine

/-- The copy a member holds at the end of an attempt, if it is MEMBER then. -/
theorem record_of_member {s t : State} {a : Attempt} {c : Instr} {r : Record} (hs : s.control.state = .member)
    (hr : s.record = some r) (h : EndsWith s a c) (ht : exec c s = .next t) (hmember : t.control.state = .member) :
    t.record = some (judgementOf s a c r).record := by
  obtain rfl : attemptEnds (responsesOf a c) a s = t := by
    rw [h.exec] at ht
    exact Host.Outcome.next.inj ht
  obtain ⟨-, hrecord, hcontrol, -⟩ := attemptEnds_blocks s a c
  rw [hcontrol, attemptMade_of_judging (.inr (.inl hs)) hr] at hmember
  rw [hrecord, attemptMade_of_judging (.inr (.inl hs)) hr, judgementOf_eq]
  cases hown : (judge s.number (seenOf s.number (ended a c)) r).own with
  | some cause =>
    have hstate := (memberJudges_own (s := attemptPast (ended a c) s) hown).2
    rw [hmember] at hstate
    split at hstate <;> cases hstate
  | none => exact memberJudges_stays (s := attemptPast (ended a c) s) hown

/-- Settles O47: neither judgement looks at who makes it, and a member holds the copy as judged. -/
theorem copiesStayAlike : Obligations.CopiesStayAlike := by
  intro s₁ s₂ t₁ t₂ a₁ a₂ c r hs₁ hs₂ hr₁ hr₂ hlawful hj₁ hj₂ ha₁ ha₂ hd₁ hd₂ hwinner hframed hframe ht₁ ht₂ hc hm₁ hm₂
  have hc₂ : endsAttempt a₂ c := by
    unfold endsAttempt at hc ⊢
    rw [← hframed]
    exact hc
  have hresponses : responsesOf a₁ c = responsesOf a₂ c := by
    unfold responsesOf
    rw [hframed]
  rw [record_of_member hs₁ hr₁ ⟨ha₁, hd₁, hc⟩ ht₁ hm₁, record_of_member hs₂ hr₂ ⟨ha₂, hd₂, hc₂⟩ ht₂ hm₂]
  refine congrArg some (judge_record_bystander (Record.lawful_iff.mp hlawful).1 ?_ ?_ hwinner hframe ?_)
  · rw [joinsIn_iff] at hj₁
    simpa using hj₁
  · rw [joinsIn_iff] at hj₂
    simpa using hj₂
  · dsimp only
    rw [hresponses]

end Sys2Proof.Proofs
end


section
/-! The faults that an operation posts, and what the full queue makes of them (R161, R163). -/

set_option Elab.async false

namespace Sys2Proof.Machine

/-- From s to t the faults fs were posted in this order: those for which the queue has room are appended, the rest is
dropped with the overflow flag set. -/
structure Posts (fs : List FaultRecord) (s t : State) : Prop where
  faults : t.port.faults = s.port.faults ++ fs.take (8 - s.port.faults.length)
  overflow : t.port.overflow = (s.port.overflow || decide (8 - s.port.faults.length < fs.length))

/-- Faults that all have a property were posted on the way from s to t. -/
def PostsOnly (P : FaultRecord → Prop) (s t : State) : Prop := ∃ fs, Posts fs s t ∧ ∀ x ∈ fs, P x

/-- The fault a block posts in the state s. -/
def faultOf (k : FaultKind) (station : Option Station) (slot : Option Slot) (line : Option Line)
    (cause : Option DepartureCause) (s : State) : FaultRecord :=
  { kind := k, stamp := s.port.clock, station := station, slot := slot, line := line, seq := s.record.map Record.seq
    cause := cause }

namespace Posts

variable {s t u : State} {fs gs : List FaultRecord}

theorem none_of_queue (hfaults : t.port.faults = s.port.faults) (hover : t.port.overflow = s.port.overflow) :
    Posts [] s t := ⟨by simp [hfaults], by simp [hover]⟩

theorem none_of_port (h : t.port = s.port) : Posts [] s t := none_of_queue (by rw [h]) (by rw [h])

theorem trans (h : Posts fs s t) (k : Posts gs t u) : Posts (fs ++ gs) s u := by
  have hlen : 8 - t.port.faults.length = 8 - s.port.faults.length - fs.length := by
    rw [h.faults, List.length_append, List.length_take]
    omega
  refine ⟨?_, ?_⟩
  · rw [k.faults, hlen, h.faults, List.take_append, List.append_assoc]
  · rw [k.overflow, hlen, h.overflow, Bool.or_assoc, List.length_append]
    congr 1
    rw [Bool.eq_iff_iff]
    simp only [Bool.or_eq_true, decide_eq_true_eq]
    omega

/-- A step that posts nothing after steps that do. -/
theorem then_none (h : Posts fs s t) (k : Posts [] t u) : Posts fs s u := by
  simpa using h.trans k

theorem after_none (h : Posts [] s t) (k : Posts fs t u) : Posts fs s u := h.trans k

theorem postFault (k : FaultKind) (a : Option Station) (b : Option Slot) (c : Option Line) (d : Option DepartureCause)
    (s : State) : Posts [faultOf k a b c d s] s (postFault k a b c d s) := by
  rcases postFault_cases k a b c d s with ⟨hroom, heq⟩ | ⟨hfull, heq⟩ <;> rw [heq]
  · exact ⟨by rw [List.take_of_length_le (by simp; omega)]; rfl, by simp; omega⟩
  · have hzero : 8 - s.port.faults.length = 0 := by omega
    exact ⟨by simp [hzero], by simp [hzero]⟩

/-- Along a list whose elements each post one fault. -/
theorem foldl {α : Type} {f : State → α → State} {k : α → FaultRecord} {good : State → Prop}
    (h : ∀ u a, good u → Posts [k a] u (f u a) ∧ good (f u a)) (l : List α) (hs : good s) :
    Posts (l.map k) s (l.foldl f s) := by
  induction l generalizing s with
  | nil => exact none_of_port rfl
  | cons a l ih =>
    obtain ⟨hpost, hgood⟩ := h s a hs
    exact hpost.trans (ih hgood)

/-- A fault posted is in the queue, unless the queue was full. -/
theorem reported (h : Posts fs s t) {f : FaultRecord} (hf : f ∈ fs) : Reported t f := by
  by_cases hroom : fs.length ≤ 8 - s.port.faults.length
  · left
    rw [h.faults, List.take_of_length_le hroom]
    exact List.mem_append_right _ hf
  · right
    rw [h.faults, h.overflow, List.length_append, List.length_take]
    exact ⟨by omega, by simp; omega⟩

/-- A queue within its bound, after the faults. -/
theorem take (h : Posts fs s t) (hs : s.port.faults.length ≤ 8) :
    t.port.faults = (s.port.faults ++ fs).take 8 ∧
      t.port.overflow = (s.port.overflow || decide (8 < (s.port.faults ++ fs).length)) := by
  refine ⟨?_, ?_⟩
  · rw [h.faults, List.take_append, List.take_of_length_le hs]
  · rw [h.overflow, List.length_append]
    congr 1
    rw [Bool.eq_iff_iff, decide_eq_true_eq, decide_eq_true_eq]
    omega

end Posts

/-- A fault reported stays so as further faults are posted. -/
theorem Reported.then_posts {s t : State} {f : FaultRecord} {gs : List FaultRecord} (h : Reported s f)
    (k : Posts gs s t) : Reported t f := by
  rcases h with h | ⟨hfull, hover⟩
  · exact .inl (by rw [k.faults]; exact List.mem_append_left _ h)
  · exact .inr ⟨by rw [k.faults, List.length_append]; omega, by rw [k.overflow, hover]; rfl⟩

namespace PostsOnly

variable {s t u : State} {P : FaultRecord → Prop}

theorem of_none (h : Posts [] s t) : PostsOnly P s t := ⟨[], h, by simp⟩

theorem trans (h : PostsOnly P s t) (k : PostsOnly P t u) : PostsOnly P s u := by
  obtain ⟨fs, hfs, hP⟩ := h
  obtain ⟨gs, hgs, hQ⟩ := k
  exact ⟨fs ++ gs, hfs.trans hgs, fun x hx => (List.mem_append.mp hx).elim (hP x) (hQ x)⟩

theorem then_none (h : PostsOnly P s t) (k : Posts [] t u) : PostsOnly P s u := h.trans (of_none k)

theorem mono {Q : FaultRecord → Prop} (h : PostsOnly P s t) (hPQ : ∀ x, P x → Q x) : PostsOnly Q s t := by
  obtain ⟨fs, hfs, hP⟩ := h
  exact ⟨fs, hfs, fun x hx => hPQ x (hP x hx)⟩

theorem foldl {α : Type} {f : State → α → State} (h : ∀ u a, PostsOnly P u (f u a)) (l : List α) (s : State) :
    PostsOnly P s (l.foldl f s) := by
  induction l generalizing s with
  | nil => exact of_none (.none_of_port rfl)
  | cons a l ih => exact (h s a).trans (ih (f s a))

theorem postFault {k : FaultKind} {a : Option Station} {b : Option Slot} {c : Option Line} {d : Option DepartureCause}
    {s : State} (h : P (faultOf k a b c d s)) : PostsOnly P s (postFault k a b c d s) :=
  ⟨_, .postFault k a b c d s, by simpa using h⟩

/-- A fault in the queue that has not the property was there before. -/
theorem mem_before (h : PostsOnly P s t) {x : FaultRecord} (hx : x ∈ t.port.faults) (hP : ¬P x) : x ∈ s.port.faults := by
  obtain ⟨fs, hfs, hall⟩ := h
  rw [hfs.faults] at hx
  exact (List.mem_append.mp hx).resolve_right fun hmem => hP (hall x (List.mem_of_mem_take hmem))

end PostsOnly

/-! ### What a judgement posts (R58, R92, R110, R127, R163) -/

theorem postDepartures_posts (ds : List (Station × DepartureCause)) (s : State) :
    Posts ((ds.filter (fun d => d.1 != s.number)).map
      (fun d => faultOf .memberDeparted (some d.1) none none (some d.2) s)) s (postDepartures ds s) := by
  refine Posts.foldl (good := fun u => u.port.clock = s.port.clock ∧ u.record = s.record) (fun u d hu => ⟨?_, ?_, ?_⟩) _
    ⟨rfl, rfl⟩
  · have h := Posts.postFault .memberDeparted (some d.1) none none (some d.2) u
    unfold faultOf at h ⊢
    rw [hu.1, hu.2] at h
    exact h
  · exact ((SameHostSide.postFault (s := u) _ _ _ _ _).mpr (.refl u)).clock.trans hu.1
  · exact (postFault_frame _ _ _ _ _ u).2.2.1.trans hu.2

/-- The faults about the station's own place (R58, R110). -/
def placeFaults (diverged lost : Bool) (s : State) : List FaultRecord :=
  (if diverged then [faultOf .desync none none none none s] else []) ++
    (if lost then [faultOf .joinTimeout none none none none s] else [])

theorem postOwnPlace_posts (diverged lost : Bool) (s : State) :
    Posts (placeFaults diverged lost s) s (postOwnPlace diverged lost s) := by
  rw [postOwnPlace_cases]
  have hdesync := Posts.postFault .desync none none none none s
  have hlater : faultOf .joinTimeout none none none none (postFault .desync none none none none s) =
      faultOf .joinTimeout none none none none s := by
    unfold faultOf
    rw [((SameHostSide.postFault (s := s) _ _ _ _ _).mpr (.refl s)).clock, (postFault_frame _ _ _ _ _ s).2.2.1]
  cases diverged <;> cases lost
  · exact .none_of_port rfl
  · exact .postFault _ _ _ _ _ s
  · exact hdesync
  · have h := hdesync.trans (.postFault .joinTimeout none none none none _)
    rw [hlater] at h
    exact h

theorem sourceDropped_postsOnly (x : Source) (h : Handle) (s : State) :
    PostsOnly (fun f => f.kind = .serviceFailed) s (sourceDropped x h s) := by
  cases x with
  | line n =>
    have hline : Posts [] s (changeLine n
        (fun l => { l with state := .holdoff, memo := false, handle := none, timer := none }) s) := .none_of_port rfl
    exact (PostsOnly.of_none hline).trans (.postFault rfl)
  | raise id => exact .of_none (.none_of_queue rfl rfl)

theorem originReacts_postsOnly (sent : Option Sent) (s : State) (c : EntryChange) :
    PostsOnly (fun f => f.kind = .serviceFailed) s (originReacts sent s c) := by
  have hquiet : ∀ {u : State}, u.port = s.port → PostsOnly (fun f => f.kind = .serviceFailed) s u := fun h =>
    .of_none (.none_of_port h)
  unfold originReacts
  dsimp only
  split
  · split
    · split
      · exact hquiet (by simp)
      · exact hquiet rfl
    · split
      · exact hquiet rfl
      · rename_i x _
        split
        · exact hquiet (by simp)
        · exact hquiet (by simp)
        · exact hquiet (by simp)
        · cases x with
          | line n => exact hquiet (by simp [sourceRetires])
          | raise id => exact .of_none (.none_of_queue rfl rfl)
        · exact hquiet (by simp)
        · exact sourceDropped_postsOnly x _ s
        all_goals exact hquiet rfl
  · exact hquiet rfl

theorem postRetryLimit_postsOnly (p : Option Purpose) (s : State) :
    PostsOnly (fun f => f.kind = .retryLimit) s (postRetryLimit p s) := by
  cases p
  · exact .of_none (.none_of_port rfl)
  · exact .postFault rfl

theorem changeState_posts (new : StationState) (s : State) : Posts [] s (changeState new s) := by
  have hport := (changeState_frame new s).2.2.2.1
  exact .none_of_queue (by rw [hport]) (by rw [hport])

theorem settleState_posts (a b c d : Bool) (s : State) : Posts [] s (settleState a b c d s) := by
  rcases settleState_cases s a b c d with ⟨-, k, heq, -⟩ | ⟨-, ⟨-, -, heq⟩ | ⟨-, heq⟩⟩ <;> rw [heq]
  · exact (changeState_posts .departing s).then_none (.none_of_port rfl)
  · exact changeState_posts _ s
  · exact .none_of_port rfl

/-- A station that stays in the group posts, after the departures of the others, the faults about its own place, then
those about its entries and purposes. -/
theorem judgementReacted_posts (x : Seen) (j : Judgement) (lost : Bool) (s : State) :
    ∃ fs, Posts (placeFaults j.diverged lost (judgementPosted j s) ++ fs) (judgementPosted j s)
        (judgementReacted x j lost s) ∧
      ∀ f ∈ fs, f.kind = .serviceFailed ∨ f.kind = .retryLimit := by
  have hplace := postOwnPlace_posts j.diverged lost (judgementPosted j s)
  have hcount : ∀ u, Posts [] u (if x.isSender then countSent j.took u else u) := by
    intro u
    split
    · exact .none_of_port (by simp)
    · exact .none_of_port rfl
  have hclaim : ∀ u, Posts [] u (claimReacts x.isSender j.record j.changes u) := fun u => .none_of_queue rfl rfl
  have horigin := fun u => PostsOnly.foldl (s := u)
    (originReacts_postsOnly (if x.isSender then s.agenda.sent else none)) j.changes
  have hretry := fun u => postRetryLimit_postsOnly (judgementSpent x j s) u
  have hbeacon : ∀ u, Posts [] u (updateBeacon x.isSender j.took u) := fun u => .none_of_port (by simp)
  have hlater : ∀ u, PostsOnly (fun f => f.kind = .serviceFailed ∨ f.kind = .retryLimit) u
      (updateBeacon x.isSender j.took (postRetryLimit (judgementSpent x j s)
        (j.changes.foldl (originReacts (if x.isSender then s.agenda.sent else none))
          (claimReacts x.isSender j.record j.changes (if x.isSender then countSent j.took u else u))))) := fun u =>
    (((PostsOnly.of_none (hcount u)).then_none (hclaim _)).trans (((horigin _).mono fun _ h => .inl h).trans
      ((hretry _).mono fun _ h => .inr h))).then_none (hbeacon _)
  obtain ⟨fs, hfs, hkinds⟩ := hlater (postOwnPlace j.diverged lost (judgementPosted j s))
  exact ⟨fs, hplace.trans hfs, hkinds⟩

/-! ### What a departing station posts (R56, R114) -/

theorem selfDeparts_posts (s : State) : Posts [] s (selfDeparts s) := .none_of_queue rfl rfl

theorem leaveEnds_posts (s : State) : Posts [] s (leaveEnds s) :=
  (Posts.none_of_queue (s := s) (t := postCompletions [.leaveLeft] s) rfl rfl).then_none (changeState_posts .offline _)

theorem listenWithBackoff_posts (s : State) : Posts [] s (listenWithBackoff s) :=
  (Posts.none_of_queue (s := s) (t := startBackoff .listen s) rfl rfl).then_none (changeState_posts .listen _)

/-- The fault about its own place that a departing station posts: EVICTED, unless its own LEAVE took (R56, R114). -/
def ownDepartureFaults (cause : DepartureCause) (s : State) : List FaultRecord :=
  if s.control.state = .leaving ∧ cause = .left then [] else [faultOf .evicted (some s.number) none none none s]

theorem ownDeparture_posts (cause : DepartureCause) (s : State) :
    Posts (ownDepartureFaults cause s) s (ownDeparture cause s) := by
  have hpost := Posts.postFault .evicted (some s.number) none none none s
  unfold ownDeparture ownDepartureFaults
  by_cases hs : s.control.state = .leaving
  · rw [if_pos hs]
    cases cause
    · rw [if_pos ⟨hs, rfl⟩]
      exact (selfDeparts_posts s).then_none (leaveEnds_posts _)
    all_goals
      rw [if_neg (by simp)]
      exact (hpost.then_none (selfDeparts_posts _)).then_none (leaveEnds_posts _)
  · rw [if_neg hs, if_neg (fun h => hs h.1)]
    exact (hpost.then_none (selfDeparts_posts _)).then_none (listenWithBackoff_posts _)

/-- The faults for the other stations that departed, in the report's order, with the copy as judged (R56, R163). -/
def departedFaults (j : Judgement) (s : State) : List FaultRecord :=
  (j.departures.filter (fun d => d.1 != s.number)).map
    (fun d => faultOf .memberDeparted (some d.1) none none (some d.2) (s.setRecord (some j.record)))

theorem updateDutyWant_posts (s : State) : Posts [] s (updateWant (updateDuty s)) := .none_of_port (by simp)

/-- The faults of a judgement in their order: the departures of others, the station's own place, its entries and
purposes. -/
theorem memberJudges_posts (a : Attempt) (r : Record) (s : State) :
    let j := judge s.number (seenOf s.number a) r
    ∃ place entries, Posts (departedFaults j s ++ place ++ entries) s (memberJudges a r s) ∧
      (∀ x ∈ place, x.kind = .evicted ∨ x.kind = .desync ∨ x.kind = .joinTimeout) ∧
      (∀ x ∈ entries, x.kind = .serviceFailed ∨ x.kind = .retryLimit) := by
  intro j
  have hdeparted : Posts (departedFaults j s) s (judgementPosted j s) :=
    (Posts.none_of_port (s := s) (t := s.setRecord (some j.record)) rfl).after_none (postDepartures_posts j.departures _)
  cases hown : j.own with
  | some cause =>
    rw [memberJudges_of_own hown]
    refine ⟨ownDepartureFaults cause (judgementPosted j s), [], ?_, fun x hx => ?_, by simp⟩
    · rw [List.append_nil]
      exact hdeparted.trans (ownDeparture_posts _ _)
    · unfold ownDepartureFaults at hx
      split at hx
      · simp at hx
      · obtain rfl := List.mem_singleton.mp hx
        exact .inl rfl
  | none =>
    rw [memberJudges_of_stays hown]
    obtain ⟨fs, hfs, hkinds⟩ := judgementReacted_posts (seenOf s.number a) j
      (snapshotLost s r j (closesSnapshot s r (seenOf s.number a) j)) s
    refine ⟨placeFaults j.diverged (snapshotLost s r j (closesSnapshot s r (seenOf s.number a) j)) (judgementPosted j s),
      fs, ?_, fun x hx => ?_, hkinds⟩
    · rw [List.append_assoc]
      exact (hdeparted.trans hfs).then_none ((settleState_posts _ _ _ _ _).then_none (updateDutyWant_posts _))
    · unfold placeFaults at hx
      rcases List.mem_append.mp hx with hx | hx <;> split at hx <;> simp [faultOf] at hx <;> simp [hx]

/-! ### What an attempt's end posts in the other states -/

theorem departingEnds_posts (a : Attempt) (s : State) : Posts [] s (departingEnds a s) := by
  unfold departingEnds
  split
  · split
    · exact (selfDeparts_posts s).then_none (leaveEnds_posts _)
    all_goals exact (selfDeparts_posts s).then_none (listenWithBackoff_posts _)
  · dsimp only
    split
    · exact .none_of_port (by simp)
    · exact .none_of_port rfl

theorem foundingMarked_posts (a : Attempt) (s : State) : Posts [] s (foundingMarked a s) := by
  rw [foundingMarked_eq]
  exact .none_of_port rfl

theorem foundingEnds_postsOnly (a : Attempt) (s : State) :
    PostsOnly (fun f => f.kind = .foundRefused) s (foundingEnds a s) := by
  have hmarked := foundingMarked_posts a s
  by_cases hfound : ∃ f ∈ a.driven, ∃ p, f.body = .found p
  · obtain ⟨f, hd, p, hb⟩ := hfound
    rw [foundingEnds_found hd hb]
    have hcount : Posts [] s (countSent false (foundingMarked a s)) := hmarked.then_none (.none_of_port (by simp))
    split
    · exact .of_none (hmarked.then_none ((Posts.none_of_port
        (s := foundingMarked a s) (t := (foundingMarked a s).setRecord (some (foundedRecord s.number p))) rfl).then_none (changeState_posts .member _)))
    · split
      · exact (PostsOnly.of_none (hcount.then_none (changeState_posts .listen _))).trans (.postFault rfl)
      · exact .of_none hcount
  · push Not at hfound
    rw [foundingEnds_other hfound]
    exact .of_none hmarked

theorem joinTimedOut_posts (s : State) : Posts [faultOf .joinTimeout none none none none s] s (joinTimedOut s) := by
  have hnoted := (changeState_posts .listen s).then_none (Posts.none_of_port
    (t := (changeState .listen s).setControl { (changeState .listen s).control with note := some 0 }) rfl)
  have hpost := Posts.postFault .joinTimeout none none none none
    ((changeState .listen s).setControl { (changeState .listen s).control with note := some 0 })
  have hsame : faultOf .joinTimeout none none none none
      ((changeState .listen s).setControl { (changeState .listen s).control with note := some 0 }) =
        faultOf .joinTimeout none none none none s := by
    unfold faultOf
    rw [State.setControl_port, State.setControl_record, (changeState_frame .listen s).2.1,
      (changeState_frame .listen s).2.2.2.1]
  rw [hsame] at hpost
  exact hnoted.after_none hpost

theorem replyHeard_postsOnly (f : Frame) (v : Verdict) (n : Nat) (p : Params) (s : State) :
    PostsOnly (fun f => f.kind = .configMismatch ∨ f.kind = .duplicateStation) s (replyHeard f v n p s) := by
  cases v <;> unfold replyHeard <;> dsimp only
  case admitted =>
    exact .of_none ((Posts.none_of_port (s := s) (t := s.setRecord (some (loadedRecord s.number f n p))) rfl).then_none
      (changeState_posts .syncing _))
  case deferred => exact .of_none (.none_of_port rfl)
  case mismatch => exact .trans (.of_none (changeState_posts .isolated s)) (.postFault (.inl rfl))
  case duplicate => exact .trans (.of_none (changeState_posts .isolated s)) (.postFault (.inr rfl))

theorem joiningEnds_postsOnly (a : Attempt) (s : State) :
    PostsOnly (fun f => f.kind = .joinTimeout ∨ f.kind = .configMismatch ∨ f.kind = .duplicateStation) s
      (joiningEnds a s) := by
  by_cases hjoin : ∃ f ∈ a.driven, ∃ p, f.body = .join p
  · obtain ⟨f, hd, p, hb⟩ := hjoin
    rw [joiningEnds_join hd hb]
    have hcount : Posts [] s (countSent false s) := .none_of_port (by simp)
    split
    · exact .of_none (.none_of_port rfl)
    · split
      · exact (PostsOnly.of_none hcount).trans ⟨_, joinTimedOut_posts _, by simp [faultOf]⟩
      · exact .of_none hcount
  · push Not at hjoin
    rcases joiningEnds_other hjoin s with heq | ⟨f, v, count, m, p, -, -, -, -, heq⟩ <;> rw [heq]
    · exact .of_none (.none_of_port rfl)
    · exact (replyHeard_postsOnly _ _ _ _ s).mono fun _ h => .inr h

theorem listenObserves_posts (head : Option Frame) (s : State) : Posts [] s (listenObserves head s) := by
  unfold listenObserves
  dsimp only
  split
  · split <;> exact .none_of_port rfl
  · split
    · exact .none_of_port rfl
    · exact changeState_posts .joining s
    · split
      · exact .none_of_port rfl
      · exact changeState_posts .joining s

/-- Nothing that is made of an attempt posts DUPLICATE_SEEN; its report does (R39). -/
theorem attemptObserved_postsOnly (a : Attempt) (s : State) :
    PostsOnly (fun f => f.kind ≠ .duplicateSeen) s (attemptObserved a s) := by
  unfold attemptObserved
  split
  case h_1 | h_2 | h_3 =>
    split
    · rename_i r _
      obtain ⟨place, entries, hposts, hplace, hentries⟩ := memberJudges_posts a r s
      refine ⟨_, hposts, fun x hx heq => ?_⟩
      rcases List.mem_append.mp hx with hx | hx
      · rcases List.mem_append.mp hx with hx | hx
        · obtain ⟨d, -, rfl⟩ := List.mem_map.mp hx
          cases heq
        · have := hplace x hx
          simp [heq] at this
      · have := hentries x hx
        simp [heq] at this
    · exact .of_none (.none_of_port rfl)
  case h_4 => exact .of_none (departingEnds_posts a s)
  case h_5 => exact (foundingEnds_postsOnly a s).mono (by simp +contextual)
  case h_6 => exact (joiningEnds_postsOnly a s).mono (by rintro x (h | h | h) <;> simp [h])
  case h_7 => exact .of_none (listenObserves_posts _ s)
  all_goals exact .of_none (.none_of_port rfl)

/-- DUPLICATE_SEEN at a station that holds a record (R39, R115). -/
theorem postDuplicate_posts (seen : Bool) (s : State) :
    Posts (if seen && s.record.isSome then [faultOf .duplicateSeen (some s.number) none none none s] else []) s
      (postDuplicate seen s) := by
  unfold postDuplicate
  split
  · exact .postFault _ _ _ _ _ s
  · exact .none_of_port rfl

/-- The end of an attempt posts what is made of it and then the report of the own number. -/
theorem attemptEnds_posts {fs : List FaultRecord} {s : State} {a : Attempt} {c : Instr}
    (h : Posts fs s (attemptMade a c s)) :
    Posts (fs ++ if ownNumberSeen s.number (ended a c) && (attemptMade a c s).record.isSome then
      [faultOf .duplicateSeen (some (attemptMade a c s).number) none none none (attemptMade a c s)] else []) s
      (attemptEnds (responsesOf a c) a s) := by
  obtain ⟨-, -, -, -, -, -, -, hport⟩ := attemptEnds_blocks s a c
  exact (h.trans (postDuplicate_posts _ _)).then_none (.none_of_port hport)

end Sys2Proof.Machine
end


section
/-! What the end of an attempt leaves of the bus interface, the idle timer, the copy and the fault queue (R24, R28,
R39, R40, R41, R45). -/

set_option Elab.async false

namespace Sys2Proof.Machine

/-- From s to t an ended attempt was dealt with: a station that enters LISTEN has the pointer unlearned, one that goes
off the bus stops observing, and otherwise pointer and idle timer stay (R23, R24, R94). -/
structure Passes (s t : State) : Prop where
  attempt : t.bus.attempt = none
  fresh : t.control.state = .listen → s.control.state ≠ .listen → t.bus.pointer = 0 ∧ t.bus.learned = false
  kept : t.control.state ≠ .listen ∨ s.control.state = .listen →
    t.bus.pointer = s.bus.pointer ∧ t.bus.learned = s.bus.learned
  idle : ¬t.off → t.agenda.idle = s.agenda.idle
  stopped : t.off → t.agenda.idle = none ∧ t.bus.observing = false

namespace Passes

variable {s t u : State}

/-- What a step leaves for `Passes` to go on. -/
theorem then_same (h : Passes s t) (hbus : u.bus = t.bus) (hstate : u.control.state = t.control.state)
    (hidle : u.agenda.idle = t.agenda.idle) : Passes s u := by
  have hoff : u.off ↔ t.off := by rw [State.off, hstate]
  exact ⟨by rw [hbus]; exact h.attempt, by rw [hstate, hbus]; exact h.fresh, by rw [hstate, hbus]; exact h.kept,
    by rw [hoff, hidle]; exact h.idle, by rw [hoff, hidle, hbus]; exact h.stopped⟩

theorem then_reacts (h : Passes s t) (k : Reacts t u) : Passes s u :=
  h.then_same k.bus (by rw [k.control]) k.idle

theorem refl (hs : ¬s.off) (hnone : s.bus.attempt = none) : Passes s s :=
  ⟨hnone, fun h h' => absurd h h', fun _ => ⟨rfl, rfl⟩, fun _ => rfl, fun h => absurd h hs⟩

/-- A change of state after steps that leave the bus interface, the station state and the idle timer. -/
theorem changeState (h : Passes s u) (hu : u.control.state = s.control.state) {new : StationState}
    (hnew : new = .listen → s.control.state ≠ .listen) (hs : ¬s.off) : Passes s (changeState new u) := by
  have hstate := changeState_state new u
  have huoff : ¬u.off := by rw [State.off, hu]; exact hs
  have hkept := h.kept (by rw [hu]; exact (em _).symm)
  by_cases hoff : new = .offline ∨ new = .isolated
  · have hbus := changeState_bus_off u hoff
    rw [Observing.stopObserving_bus_none h.attempt] at hbus
    have hisoff : (Machine.changeState new u).off := by rw [State.off, hstate]; exact hoff
    refine ⟨by rw [hbus]; exact h.attempt, fun hl => ?_, fun _ => by rw [hbus]; exact hkept, fun hon => absurd hisoff hon,
      fun _ => ⟨by rw [changeState_agenda_off u hoff]; simp [h.attempt], by rw [hbus]⟩⟩
    rw [hstate] at hl
    rw [hl] at hoff
    exact absurd hoff (by decide)
  · have hon : ¬(Machine.changeState new u).off := by rw [State.off, hstate]; exact hoff
    push Not at hoff
    have hidle := (changeState_idle u hoff).trans (h.idle huoff)
    by_cases hl : new = .listen
    · subst hl
      have hbus := changeState_bus_listen u
      refine ⟨by rw [hbus]; exact h.attempt, fun _ _ => by rw [hbus]; exact ⟨rfl, rfl⟩, fun hk => ?_, fun _ => hidle,
        fun hoff => absurd hoff hon⟩
      exact absurd hk (not_or.mpr ⟨not_not.mpr hstate, hnew rfl⟩)
    · have hbus := changeState_bus u ⟨hoff.1, hoff.2, hl⟩
      exact ⟨by rw [hbus]; exact h.attempt, fun hk => absurd (hstate.symm.trans hk) hl, fun _ => by rw [hbus]; exact hkept,
        fun _ => hidle, fun hoff => absurd hoff hon⟩

theorem selfDeparts (h : Passes s u) : Passes s (selfDeparts u) := by
  obtain ⟨-, hbus, -, hagenda, hcontrol, -⟩ := selfDeparts_frame u
  exact h.then_same hbus (by rw [hcontrol]) (by rw [hagenda])

theorem settleState (hs : ¬s.off) (h : Passes s u) (hu : u.control.state = s.control.state) (a b c d : Bool) :
    Passes s (settleState a b c d u) := by
  rcases settleState_cases u a b c d with ⟨-, k, heq, -⟩ | ⟨-, ⟨-, -, heq⟩ | ⟨-, heq⟩⟩ <;> rw [heq]
  · exact (h.changeState (new := .departing) hu (by simp) hs).then_same rfl rfl rfl
  · exact h.changeState hu (by simp) hs
  · exact h

theorem joinTimedOut (hs : ¬s.off) (h : Passes s u) (hu : u.control.state = s.control.state)
    (hl : s.control.state ≠ .listen) : Passes s (joinTimedOut u) := by
  have hmoved := h.changeState (new := .listen) hu (fun _ => hl) hs
  have hnoted : Passes s ((Machine.changeState .listen u).setControl
      { (Machine.changeState .listen u).control with note := some 0 }) := hmoved.then_same rfl rfl rfl
  exact hnoted.then_reacts (.postFault _ _ _ _ _ _)

theorem leaveEnds (hs : ¬s.off) (h : Passes s u) (hu : u.control.state = s.control.state) : Passes s (leaveEnds (Machine.selfDeparts u)) :=
  Passes.changeState (u := postCompletions [.leaveLeft] (Machine.selfDeparts u))
    ((selfDeparts h).then_same rfl rfl rfl)
    ((congrArg Control.state (selfDeparts_frame u).2.2.2.2.1).trans hu) (by simp) hs

theorem listenWithBackoff (hs : ¬s.off) (h : Passes s u) (hu : u.control.state = s.control.state) (hl : s.control.state ≠ .listen) :
    Passes s (listenWithBackoff (Machine.selfDeparts u)) :=
  Passes.changeState (u := startBackoff .listen (Machine.selfDeparts u))
    ((selfDeparts h).then_same rfl rfl rfl)
    ((congrArg Control.state (selfDeparts_frame u).2.2.2.2.1).trans hu) (fun _ => hl) hs

theorem ownDeparture (hs : ¬s.off) (h : Passes s u) (hu : u.control.state = s.control.state) (hl : s.control.state ≠ .listen)
    (cause : DepartureCause) : Passes s (ownDeparture cause u) := by
  have hpost := Reacts.postFault .evicted (some u.number) none none none u
  have hp := h.then_reacts hpost
  have hpu := (congrArg Control.state hpost.control).trans hu
  unfold Machine.ownDeparture
  split
  · cases cause
    · exact leaveEnds hs h hu
    all_goals exact leaveEnds hs hp hpu
  · exact listenWithBackoff hs hp hpu hl

section

variable (hs : ¬s.off) (hnone : s.bus.attempt = none)

include hs hnone

theorem memberJudges (hl : s.control.state ≠ .listen) (a : Attempt) (r : Record) : Passes s (memberJudges a r s) := by
  have hset : ∀ j : Judgement, Passes s (s.setRecord (some j.record)) := fun _ => (refl hs hnone).then_same rfl rfl rfl
  cases hown : (judge s.number (seenOf s.number a) r).own with
  | some cause =>
    rw [memberJudges_of_own hown]
    have hb := Reacts.postDepartures (judge s.number (seenOf s.number a) r).departures
      (s.setRecord (some (judge s.number (seenOf s.number a) r).record))
    exact ownDeparture hs ((hset _).then_reacts hb) (congrArg Control.state hb.control) hl cause
  | none =>
    rw [memberJudges_of_stays hown]
    have hre := judgementReacted_reacts (seenOf s.number a) (judge s.number (seenOf s.number a) r)
      (snapshotLost s r (judge s.number (seenOf s.number a) r)
        (closesSnapshot s r (seenOf s.number a) (judge s.number (seenOf s.number a) r))) s
    exact (settleState hs ((hset _).then_reacts hre) (congrArg Control.state hre.control) _ _ _ _).then_reacts
      ((Reacts.updateDuty _).trans (.updateWant _))

theorem departingEnds (hl : s.control.state ≠ .listen) (a : Attempt) : Passes s (departingEnds a s) := by
  have h := refl hs hnone
  unfold Machine.departingEnds
  split
  · split
    · exact leaveEnds hs h rfl
    all_goals exact listenWithBackoff hs h rfl hl
  · dsimp only
    split
    · exact (h.then_reacts (.dropSent s)).then_same rfl rfl rfl
    · exact h.then_same rfl rfl rfl

theorem foundingEnds (hl : s.control.state ≠ .listen) (a : Attempt) : Passes s (foundingEnds a s) := by
  have hmarked : Passes s (foundingMarked a s) ∧ (foundingMarked a s).control.state = s.control.state := by
    rw [foundingMarked_eq]
    exact ⟨(refl hs hnone).then_same rfl rfl rfl, rfl⟩
  obtain ⟨hm, hstate⟩ := hmarked
  by_cases hfound : ∃ f ∈ a.driven, ∃ p, f.body = .found p
  · obtain ⟨f, hd, p, hb⟩ := hfound
    rw [foundingEnds_found hd hb]
    split
    · exact (hm.then_same (u := (foundingMarked a s).setRecord (some (foundedRecord s.number p))) rfl rfl rfl).changeState
        hstate (by simp) hs
    · have hcount := Reacts.countSent false (foundingMarked a s)
      split
      · exact ((hm.then_reacts hcount).changeState ((congrArg Control.state hcount.control).trans hstate) (fun _ => hl)
          hs).then_reacts (.postFault _ _ _ _ _ _)
      · exact hm.then_reacts hcount
  · push Not at hfound
    rw [foundingEnds_other hfound]
    exact hm

theorem replyHeard (f : Frame) (v : Verdict) (n : Nat) (p : Params) :
    Passes s (replyHeard f v n p s) := by
  have h := refl hs hnone
  cases v <;> unfold Machine.replyHeard <;> dsimp only
  case admitted =>
    exact (h.then_same (u := s.setRecord (some (loadedRecord s.number f n p))) rfl rfl rfl).changeState rfl (by simp) hs
  case deferred =>
    have hreply : Passes s (s.setControl { s.control with joinReply := none }) := h.then_same rfl rfl rfl
    exact (hreply.then_reacts (.dropPurposes (fun x => x == .join) _)).then_same rfl rfl rfl
  case mismatch | duplicate =>
    exact (h.changeState (new := .isolated) rfl (by simp) hs).then_reacts (.postFault _ _ _ _ _ _)

theorem joiningEnds (hl : s.control.state ≠ .listen) (a : Attempt) : Passes s (joiningEnds a s) := by
  have h := refl hs hnone
  by_cases hjoin : ∃ f ∈ a.driven, ∃ p, f.body = .join p
  · obtain ⟨f, hd, p, hb⟩ := hjoin
    rw [joiningEnds_join hd hb]
    split
    · exact (h.then_reacts (.dropPurposes (fun x => x == .join) s)).then_same rfl rfl rfl
    · have hcount := Reacts.countSent false s
      split
      · exact joinTimedOut hs (h.then_reacts hcount) (congrArg Control.state hcount.control) hl
      · exact h.then_reacts hcount
  · push Not at hjoin
    rcases joiningEnds_other hjoin s with heq | ⟨f, v, count, m, p, -, -, -, -, heq⟩ <;> rw [heq]
    · exact h
    · exact replyHeard hs hnone _ _ _ _

theorem listenObserves (head : Option Frame) : Passes s (listenObserves head s) := by
  have h := refl hs hnone
  have hjoining : Passes s (Machine.changeState .joining s) := h.changeState rfl (by simp) hs
  unfold Machine.listenObserves
  dsimp only
  split
  · split
    · exact h.then_same rfl rfl rfl
    · exact h
  · split
    · exact h.then_same rfl rfl rfl
    · exact hjoining
    · split
      · exact h.then_same rfl rfl rfl
      · exact hjoining

theorem attemptObserved (a : Attempt) : Passes s (attemptObserved a s) := by
  have hne : ∀ x, s.control.state = x → x ≠ .listen → s.control.state ≠ .listen := fun x hx hl => by rw [hx]; exact hl
  unfold Machine.attemptObserved
  split
  case h_1 h' | h_2 h' | h_3 h' =>
    split
    · exact memberJudges hs hnone (hne _ h' (by decide)) a _
    · exact refl hs hnone
  case h_4 h' => exact departingEnds hs hnone (hne _ h' (by decide)) a
  case h_5 h' => exact foundingEnds hs hnone (hne _ h' (by decide)) a
  case h_6 h' => exact joiningEnds hs hnone (hne _ h' (by decide)) a
  case h_7 => exact listenObserves hs hnone _
  all_goals exact refl hs hnone

end

end Passes

/-- The host's side outlives what is made of an attempt. -/
theorem attemptMade_host (a : Attempt) (c : Instr) (s : State) : SameHostSide s (attemptMade a c s) :=
  (SameHostSide.attemptObserved _).mpr (by constructor <;> rfl)

theorem pointAfter_learned {a : Attempt} {b : Bus} (h : b.learned = true) :
    (pointAfter a b).pointer = a.winner + 1 ∧ (pointAfter a b).learned = true := by
  unfold pointAfter
  rw [if_pos h]
  exact ⟨rfl, h⟩

theorem pointAfter_head {a : Attempt} {b : Bus} (h : b.learned = false) {f : Frame} (hf : readableFrame a = some f) :
    (pointAfter a b).pointer = f.sender + 1 ∧ (pointAfter a b).learned = true := by
  unfold pointAfter
  rw [h, hf]
  exact ⟨rfl, rfl⟩

theorem pointAfter_unread {a : Attempt} {b : Bus} (h : b.learned = false) (hf : readableFrame a = none) :
    (pointAfter a b).pointer = b.pointer ∧ (pointAfter a b).learned = false := by
  unfold pointAfter
  rw [h, hf]
  exact ⟨rfl, h⟩

theorem ownNumberSeen_iff {n : Station} {a : Attempt} {c : Instr} : ownNumberSeen n (ended a c) = true ↔
    a.winnerLearned = true ∧ a.winner = n ∧ a.requested = false ∨
      a.driven = none ∧ ∃ f, headOf a = some f ∧ f.sender = n := by
  unfold ownNumberSeen
  rw [headOf_eq_readable]
  simp [ended, and_assoc, Option.any_eq_true]

end Sys2Proof.Machine

namespace Sys2Proof.Proofs

open Sys2Proof.Machine

theorem endedAttempt_setsPointer {s : State} {a : Attempt} {c : Instr} (hs : ¬s.off) :
    let t := attemptEnds (responsesOf a c) a s
    t.bus.attempt = none ∧
      (t.control.state = .listen → s.control.state ≠ .listen →
        t.bus.pointer = 0 ∧ t.bus.learned = false) ∧
      (t.control.state ≠ .listen ∨ s.control.state = .listen →
        (s.bus.learned = true → t.bus.pointer = a.winner + 1 ∧ t.bus.learned = true) ∧
        (s.bus.learned = false → ∀ f, headOf a = some f →
          t.bus.pointer = f.sender + 1 ∧ t.bus.learned = true) ∧
        (s.bus.learned = false → headOf a = none →
          t.bus.pointer = s.bus.pointer ∧ t.bus.learned = false)) ∧
      (¬ t.off → t.agenda.idle = some (s.port.store.ti * 250)) ∧
      (t.off → t.agenda.idle = none ∧ t.bus.observing = false) := by
  intro t
  obtain ⟨-, -, hcontrol, -, -, -, hagenda, -⟩ := attemptEnds_blocks s a c
  have hbus := attemptEnds_bus s a c
  have hmade : Passes (attemptPast (ended a c) s) (attemptMade a c s) :=
    Passes.attemptObserved (s := attemptPast (ended a c) s) hs rfl (ended a c)
  have hpass : Passes (attemptPast (ended a c) s) t := by
    have hoff : t.off ↔ (attemptMade a c s).off := by rw [State.off, hcontrol]
    have hidle : t.agenda.idle = (attemptMade a c s).agenda.idle := by rw [hagenda]
    exact ⟨by rw [hbus]; exact hmade.attempt, by rw [hcontrol, hbus]; exact hmade.fresh,
      by rw [hcontrol, hbus]; exact hmade.kept, by rw [hoff, hidle]; exact hmade.idle,
      by rw [hoff, hidle, hbus]; exact hmade.stopped⟩
  refine ⟨hpass.attempt, hpass.fresh, fun hk => ?_, hpass.idle, hpass.stopped⟩
  obtain ⟨hpointer, hlearned⟩ := hpass.kept hk
  rw [hpointer, hlearned, ← headOf_eq_readable a c]
  exact ⟨fun hl => pointAfter_learned hl, fun hl f hf => pointAfter_head hl hf, fun hl hf => pointAfter_unread hl hf⟩

theorem endedAttempt_reportsNumber {s : State} {a : Attempt} {c : Instr} :
    let seen := a.winnerLearned = true ∧ a.winner = s.number ∧ a.requested = false ∨
      a.driven = none ∧ ∃ f, headOf a = some f ∧ f.sender = s.number
    let t := attemptEnds (responsesOf a c) a s
    (seen → ∀ r, t.record = some r →
        (∃ earlier, t.port.faults = earlier ++ [{
          kind := .duplicateSeen, stamp := s.port.clock, station := some s.number, slot := none,
          line := none, seq := some r.seq, cause := none }]) ∨
        8 ≤ t.port.faults.length ∧ t.port.overflow = true) ∧
      (¬ seen ∨ t.record = none →
        ∀ x ∈ t.port.faults, x.kind = .duplicateSeen → x ∈ s.port.faults) := by
  intro seen t
  obtain ⟨-, hrecord, -, -, -, -, -, hport⟩ := attemptEnds_blocks s a c
  have hseen : ownNumberSeen s.number (ended a c) = true ↔ seen := ownNumberSeen_iff
  have hhost := attemptMade_host a c s
  refine ⟨fun hs r hr => ?_, fun hno x hx hkind => ?_⟩
  · rw [show t.record = _ from hrecord] at hr
    rw [show t.port = _ from hport, hseen.mpr hs]
    unfold postDuplicate
    rw [hr, if_pos (show (true && (some r).isSome) = true from rfl)]
    rcases postFault_cases .duplicateSeen (some (attemptMade a c s).number) none none none (attemptMade a c s) with
      ⟨-, heq⟩ | ⟨hfull, heq⟩ <;> rw [heq]
    · refine .inl ⟨(attemptMade a c s).port.faults, ?_⟩
      rw [hhost.clock, hhost.number, hr]
      rfl
    · exact .inr ⟨hfull, rfl⟩
  · have hquiet : (ownNumberSeen s.number (ended a c) && (attemptMade a c s).record.isSome) = false := by
      rw [← Bool.not_eq_true, Bool.and_eq_true, hseen]
      rintro ⟨hs, hsome⟩
      rcases hno with hno | hnone
      · exact hno hs
      · rw [show t.record = _ from hrecord] at hnone
        rw [hnone] at hsome
        exact Bool.false_ne_true hsome
    have hfaults : t.port.faults = (attemptMade a c s).port.faults := by
      rw [show t.port = _ from hport]
      unfold postDuplicate
      rw [hquiet]
      rfl
    rw [hfaults] at hx
    exact (attemptObserved_postsOnly (ended a c) (attemptPast (ended a c) s)).mem_before hx (fun hne => hne hkind)

/-- Settles O30: what the end of an attempt leaves of the bus interface, then the discarded attempt, then the report of
the own number. -/
theorem attemptEndSetsThePointer : Obligations.AttemptEndSetsThePointer := by
  refine ⟨fun s a c ha hkeep hs hc => ?_, fun s a c ha hgone hc => ?_, fun s a c h => ?_⟩
  · exact ⟨_, EndsWith.exec ⟨ha, hkeep, hc⟩, endedAttempt_setsPointer hs⟩
  · rw [exec_endsAttempt ha hc]
    unfold finishAttempt
    rw [if_pos hgone]
    rfl
  · exact ⟨_, h.exec, endedAttempt_reportsNumber⟩

/-- The copy and the station state after a judgement (R45, R60, R114). -/
theorem endedAttempt_judged {s : State} {a : Attempt} {c : Instr} (hs : s.judging) {r : Record}
    (hr : s.record = some r) :
    let j := judgementOf s a c r
    let t := attemptEnds (responsesOf a c) a s
    (j.own = none → t.record = some j.record) ∧
      (j.own ≠ none → t.record = none ∧
        t.control.state = if s.control.state = .leaving then .offline else .listen) := by
  intro j t
  obtain ⟨-, hrecord, hcontrol, -⟩ := attemptEnds_blocks s a c
  rw [show t.record = _ from hrecord, show t.control = _ from hcontrol, attemptMade_of_judging hs hr]
  have hj : j = judge s.number (seenOf s.number (ended a c)) r := judgementOf_eq s a c r
  rw [hj]
  refine ⟨fun hown => memberJudges_stays (s := attemptPast (ended a c) s) hown, fun hown => ?_⟩
  obtain ⟨cause, hcause⟩ := Option.ne_none_iff_exists'.mp hown
  exact memberJudges_own (s := attemptPast (ended a c) s) hcause

/-- Settles O31: the copy as judged, and the faults in their order. -/
theorem attemptEndJudgesTheCopy : Obligations.AttemptEndJudgesTheCopy := by
  refine ⟨fun s a c r ha hkeep hc hs hr => ?_, fun s a c r h hs hr hqueue => ?_⟩
  · exact ⟨_, EndsWith.exec ⟨ha, hkeep, hc⟩, endedAttempt_judged hs hr⟩
  · intro j departed
    have hdeparted : departed = _ := congrArg (fun j => departedFaults j s) (judgementOf_eq s a c r)
    obtain ⟨place, entries, hposts, hplace, hentries⟩ := memberJudges_posts (ended a c) r (attemptPast (ended a c) s)
    replace hposts : Posts (departed ++ place ++ entries) (attemptPast (ended a c) s) (attemptMade a c s) := by
      rw [hdeparted, attemptMade_of_judging hs hr]
      exact hposts
    clear_value departed
    have hpast : Posts [] s (attemptPast (ended a c) s) := .none_of_port rfl
    have hall := attemptEnds_posts (hpast.after_none hposts)
    generalize hlast : (if ownNumberSeen s.number (ended a c) && (attemptMade a c s).record.isSome then
      [faultOf .duplicateSeen (some (attemptMade a c s).number) none none none (attemptMade a c s)] else []) = last
      at hall
    obtain ⟨hfaults, hover⟩ := hall.take hqueue
    refine ⟨attemptEnds (responsesOf a c) a s, place, entries, last, h.exec, ?_, ?_, hplace, hentries, fun x hx => ?_⟩
    · simpa only [List.append_assoc] using hfaults
    · simpa only [List.append_assoc] using hover
    · rw [← hlast] at hx
      split at hx
      · obtain rfl := List.mem_singleton.mp hx
        rfl
      · exact absurd hx List.not_mem_nil

end Sys2Proof.Proofs
end


section
/-! What a station offers on entry to MEMBER: its queued raises, then its active level lines (R118). -/

set_option Elab.async false

namespace Sys2Proof.Machine

/-! ### The OFFER purposes held -/

/-- Whether an aim is an OFFER. -/
def Aim.isOffer : Aim → Bool
  | .offer _ _ => true
  | _ => false

/-- The aims of the OFFER purposes held, in the order of adding. -/
def offersHeld (s : State) : List Aim := (s.agenda.purposes.map Purpose.aim).filter Aim.isOffer

theorem offersHeld_congr {s t : State} (h : t.agenda.purposes = s.agenda.purposes) : offersHeld t = offersHeld s := by
  unfold offersHeld
  rw [h]

theorem offersHeld_addPurpose {a : Aim} (ha : a.isOffer = false) (s : State) :
    offersHeld (addPurpose a s) = offersHeld s := by
  rcases addPurpose_cases a s with ⟨-, -, heq⟩ | ⟨-, heq⟩ <;> rw [heq]
  simp [offersHeld, ha]

theorem offersHeld_dropPurposes {which : Aim → Bool} (h : ∀ a, a.isOffer = true → which a = false) (s : State) :
    offersHeld (dropPurposes which s) = offersHeld s := by
  unfold offersHeld dropPurposes
  rw [State.setAgenda_agenda, List.filter_map, List.filter_map, List.filter_filter]
  refine congrArg _ (List.filter_congr fun p _ => ?_)
  cases hp : p.aim.isOffer
  · simp [hp]
  · simp [hp, h p.aim hp]

theorem offersHeld_updateWant (s : State) : offersHeld (updateWant s) = offersHeld s := by
  unfold updateWant
  split
  · exact offersHeld_addPurpose rfl s
  · refine offersHeld_dropPurposes (fun a ha => ?_) s
    cases a <;> first | rfl | cases ha

theorem offersHeld_updateDuty (s : State) : offersHeld (updateDuty s) = offersHeld s := by
  unfold updateDuty
  split
  · exact offersHeld_addPurpose rfl s
  · refine offersHeld_dropPurposes (fun a ha => ?_) s
    cases a <;> first | rfl | cases ha

/-! ### Queued raises -/

theorem offersHeld_foldl_offerRaise {l : List RaiseRecord} {u : State} (hm : u.control.state = .member)
    (hids : (l.map RaiseRecord.id).Nodup) (hfree : ∀ a ∈ offersHeld u, ∀ r ∈ l, offerOf (.raise r.id) a = false) :
    offersHeld (l.foldl offerRaise u) = offersHeld u ++
      (l.filter (fun x => x.state == .queued)).map (fun x => .offer (.raise x.id) x.priority) := by
  induction l generalizing u with
  | nil => simp
  | cons r l ih =>
    rw [List.map_cons, List.nodup_cons] at hids
    rw [List.foldl_cons]
    by_cases hq : r.state = .queued
    · have hnone : u.agenda.purposes.any (fun p => offerOf (.raise r.id) p.aim) = false := by
        rw [List.any_eq_false]
        intro p hp hoffer
        have hmem : p.aim ∈ offersHeld u :=
          List.mem_filter.mpr ⟨List.mem_map_of_mem hp, by cases ha : p.aim <;> simp_all [offerOf, Aim.isOffer]⟩
        rw [hfree _ hmem r List.mem_cons_self] at hoffer
        exact Bool.false_ne_true hoffer
      have hoffer : offerRaise u r = u.setAgenda (u.agenda.gains (offerOf (.raise r.id)) (.offer (.raise r.id) r.priority)) := by
        unfold offerRaise
        rw [if_pos hq, addPurpose_offer hm]
      have hheld : offersHeld (offerRaise u r) = offersHeld u ++ [.offer (.raise r.id) r.priority] := by
        rw [hoffer]
        simp [offersHeld, Agenda.gains, hnone, Aim.isOffer]
      rw [ih (u := offerRaise u r) (by rw [hoffer]; exact hm) hids.2 ?_, hheld]
      · simp [hq]
      · intro a ha x hx
        rw [hheld] at ha
        rcases List.mem_append.mp ha with ha | ha
        · exact hfree a ha x (List.mem_cons_of_mem _ hx)
        · obtain rfl := List.mem_singleton.mp ha
          have hne : r.id ≠ x.id := fun he => hids.1 (he ▸ List.mem_map_of_mem hx)
          simpa [offerOf] using hne
    · have hskip : offerRaise u r = u := if_neg hq
      rw [hskip, ih hm hids.2 (fun a ha x hx => hfree a ha x (List.mem_cons_of_mem _ hx))]
      simp [hq]

/-! ### Active level lines -/

/-- A line that is evaluated into WANT: in IDLE and active (R118). -/
def lineWaits (s : State) (n : Line) : Bool := decide (s.origin.lines[n].state = .idle ∧ lineActive s n = true)

theorem lineWaits_congr {s t : State} {n : Line} (hlevels : t.origin.levels = s.origin.levels)
    (hline : t.origin.lines[n] = s.origin.lines[n]) : lineWaits t n = lineWaits s n := by
  unfold lineWaits lineActive
  rw [hline, hlevels]

/-- What the evaluation of one line does in MEMBER. -/
theorem evaluateLine_member {u : State} (hm : u.control.state = .member) (n : Line) : evaluateLine n u =
    if lineWaits u n then (changeLine n (fun l => { l with state := .want }) u).setAgenda
      (u.agenda.gains (offerOf (.line n)) (.offer (.line n) u.origin.lines[n].priority)) else u := by
  rw [evaluateLine_eq, hm]
  simp [lineWaits]

theorem evaluateLine_lines {u : State} (hm : u.control.state = .member) (n m : Line) :
    (evaluateLine n u).origin.lines[m] =
      if m = n ∧ lineWaits u n = true then { u.origin.lines[m] with state := .want } else u.origin.lines[m] := by
  rw [evaluateLine_member hm]
  cases hw : lineWaits u n
  · simp
  · rw [if_pos rfl, State.setAgenda_origin, changeLine_lines]
    by_cases he : m = n
    · simp [he]
    · simp [he]

theorem evaluateLine_levels (n : Line) (u : State) : (evaluateLine n u).origin.levels = u.origin.levels := by
  unfold evaluateLine lineWants
  split <;> simp [changeLine]

theorem offersHeld_evaluateLine {u : State} (hm : u.control.state = .member) {n : Line}
    (hfree : ∀ a ∈ offersHeld u, offerOf (.line n) a = false) : offersHeld (evaluateLine n u) =
      offersHeld u ++ if lineWaits u n then [.offer (.line n) u.origin.lines[n].priority] else [] := by
  have hnone : u.agenda.purposes.any (fun p => offerOf (.line n) p.aim) = false := by
    rw [List.any_eq_false]
    intro p hp hoffer
    have hmem : p.aim ∈ offersHeld u :=
      List.mem_filter.mpr ⟨List.mem_map_of_mem hp, by cases ha : p.aim <;> simp_all [offerOf, Aim.isOffer]⟩
    rw [hfree _ hmem] at hoffer
    exact Bool.false_ne_true hoffer
  rw [evaluateLine_member hm]
  split <;> simp [offersHeld, Agenda.gains, hnone, Aim.isOffer]

theorem foldl_evaluateLine {l : List Line} {u : State} (hm : u.control.state = .member) (hl : l.Nodup)
    (hfree : ∀ a ∈ offersHeld u, ∀ n ∈ l, offerOf (.line n) a = false) :
    let t := l.foldl (fun s n => evaluateLine n s) u
    (∀ m : Line, t.origin.lines[m] =
      if m ∈ l ∧ lineWaits u m = true then { u.origin.lines[m] with state := .want } else u.origin.lines[m]) ∧
      offersHeld t = offersHeld u ++
        (l.filter (lineWaits u)).map (fun n => .offer (.line n) u.origin.lines[n].priority) := by
  induction l generalizing u with
  | nil => exact ⟨by simp, by simp⟩
  | cons n l ih =>
    rw [List.nodup_cons] at hl
    obtain ⟨hn, hl⟩ := hl
    have hheld := offersHeld_evaluateLine hm fun a ha => hfree a ha n List.mem_cons_self
    have hlines := evaluateLine_lines hm n
    have hother : ∀ m ∈ l, (evaluateLine n u).origin.lines[m] = u.origin.lines[m] := by
      intro m hml
      rw [hlines, if_neg (fun h : m = n ∧ _ => hn (h.1 ▸ hml))]
    have hwaits : ∀ m ∈ l, lineWaits (evaluateLine n u) m = lineWaits u m := fun m hml =>
      lineWaits_congr (evaluateLine_levels n u) (hother m hml)
    obtain ⟨hl', hh'⟩ := ih (u := evaluateLine n u) (by simpa using hm) hl (by
      intro a ha m hml
      rw [hheld] at ha
      rcases List.mem_append.mp ha with ha | ha
      · exact hfree a ha m (List.mem_cons_of_mem _ hml)
      · split at ha
        · obtain rfl := List.mem_singleton.mp ha
          have hne : n ≠ m := fun he => hn (he ▸ hml)
          simpa [offerOf] using hne
        · exact absurd ha List.not_mem_nil)
    refine ⟨fun m => ?_, ?_⟩
    · rw [List.foldl_cons, hl' m]
      by_cases hml : m ∈ l
      · have hmn : m ≠ n := fun he => hn (he ▸ hml)
        simp [hml, hmn, hwaits m hml, hother m hml]
      · rw [if_neg (fun h => hml h.1), hlines m]
        by_cases hmn : m = n
        · subst hmn
          simp
        · simp [hml, hmn]
    · rw [List.foldl_cons, hh', hheld, List.filter_cons, List.append_assoc,
        List.filter_congr hwaits, List.map_congr_left (fun m hml => by
          rw [hother m (List.mem_filter.mp hml).1])]
      split <;> simp

/-! ### Entry to MEMBER -/

/-- What is offered on entry to MEMBER from a state whose agenda holds no OFFER (R118). -/
theorem originEnters_offers {u : State} (hm : u.control.state = .member)
    (hids : (u.origin.raises.map RaiseRecord.id).Nodup) (hnone : offersHeld u = []) :
    (∀ m : Line, (originEnters u).origin.lines[m] =
      if lineWaits u m = true then { u.origin.lines[m] with state := .want } else u.origin.lines[m]) ∧
    offersHeld (originEnters u) = (u.origin.raises.filter (fun x => x.state == .queued)).map
        (fun x => .offer (.raise x.id) x.priority) ++
      ((List.finRange 16).filter (lineWaits u)).map (fun n => .offer (.line n) u.origin.lines[n].priority) := by
  have hkeep : (u.origin.raises.foldl offerRaise u).origin = u.origin ∧
      (u.origin.raises.foldl offerRaise u).control = u.control :=
    ⟨foldl_keeps (g := fun v : State => v.origin) (fun v r => by simp) _ u,
      foldl_keeps (g := fun v : State => v.control) (fun v r => by simp) _ u⟩
  have hraises := offersHeld_foldl_offerRaise (l := u.origin.raises) hm hids (by simp [hnone])
  rw [hnone, List.nil_append] at hraises
  have hwaits : lineWaits (u.origin.raises.foldl offerRaise u) = lineWaits u := by
    funext n
    exact lineWaits_congr (by rw [hkeep.1]) (by rw [hkeep.1])
  obtain ⟨hlines, hheld⟩ := foldl_evaluateLine (l := List.finRange 16) (u := u.origin.raises.foldl offerRaise u)
    (by rw [hkeep.2]; exact hm) (List.nodup_finRange 16) (by
      intro a ha n _
      rw [hraises] at ha
      obtain ⟨x, -, rfl⟩ := List.mem_map.mp ha
      rfl)
  rw [hwaits, hkeep.1] at hlines hheld
  refine ⟨fun m => ?_, ?_⟩
  · unfold originEnters
    rw [hlines m]
    simp
  · unfold originEnters
    rw [hheld, hraises]

/-- A station that enters MEMBER has offered what waited, whatever purposes but OFFERs its agenda gains or loses then. -/
theorem offersWhatWaited_of_member {s u t : State} (horigin : u.origin = s.origin)
    (hids : (s.origin.raises.map RaiseRecord.id).Nodup) (hnone : offersHeld (leaveState u) = [])
    (ht : t.origin = (changeState .member u).origin) (hheld : offersHeld t = offersHeld (changeState .member u))
    (hsound : AgendaSound t) : OffersWhatWaited s t := by
  have hleft : (markState .member (leaveState u)).origin = s.origin := by
    rw [(markState_frame .member (leaveState u)).2.2.2.2.1, (leaveState_frame u).2.2.2.1]
    exact horigin
  obtain ⟨hlines, hoffers⟩ := originEnters_offers (u := markState .member (leaveState u)) (by simp)
    (by rw [hleft]; exact hids) hnone
  have hwaits : lineWaits (markState .member (leaveState u)) = lineWaits s := by
    funext n
    exact lineWaits_congr (by rw [hleft]) (by rw [hleft])
  rw [hwaits, hleft] at hlines hoffers
  have horigins : t.origin = (originEnters (markState .member (leaveState u))).origin := by
    rw [ht, changeState_member]
    simp
  refine ⟨fun n => ?_, ?_, ?_, hsound.1.imp fun h => h.1⟩
  · rw [horigins, hlines n]
    simp [lineWaits]
  · rw [horigins, originEnters_raises, hleft]
  · refine Eq.trans ?_ hoffers
    refine Eq.trans ?_ ((offersHeld_updateWant _).symm.trans rfl).symm
    rw [← changeState_member, ← hheld]
    unfold offersHeld
    refine congrArg (fun f => List.filter f _) ?_
    funext a
    cases a <;> rfl

end Sys2Proof.Machine
end


section
/-! The purpose an attempt was built from, and what the outcome does to it (R91 to R93). -/

set_option Elab.async false

namespace Sys2Proof.Machine

/-- No two purposes have one age (R84). -/
theorem purpose_eq_of_age {s : State} (h : AgendaSound s) {p q : Purpose} (hp : p ∈ s.agenda.purposes)
    (hq : q ∈ s.agenda.purposes) (hage : p.age = q.age) : p = q := by
  have hnodup : (s.agenda.purposes.map Purpose.age).Nodup :=
    List.pairwise_map.mpr (h.1.imp fun hpq => Nat.ne_of_lt hpq.1)
  exact List.inj_on_of_nodup_map hnodup hp hq hage

/-- The purpose after a failure (R91, R92). -/
theorem countFailure_eq (s : State) (q : Purpose) : countFailure s q =
    if q.count + 1 < s.port.store.l then { q with count := q.count + 1 }
    else { q with count := 0, setAside := some ((s.number.val + 1) * 100) } := by
  unfold countFailure
  by_cases hl : s.port.store.l ≤ q.count + 1
  · rw [if_pos hl, if_neg (by omega)]
    rfl
  · rw [if_neg hl, if_pos (by omega)]

section

variable {s : State} {q : Purpose} {h : Option Handle}

/-- The sent purpose of the agenda is q, and it is held. -/
structure SentIs (s : State) (q : Purpose) (h : Option Handle) : Prop where
  sound : AgendaSound s
  sent : s.agenda.sent = some ⟨q, h⟩
  held : q ∈ s.agenda.purposes

theorem SentIs.sentHeld (i : SentIs s q h) : sentHeld s = some q := by
  unfold Machine.sentHeld
  rw [i.sent, Option.bind_some]
  cases hf : s.agenda.purposes.find? (fun p => p.age == q.age) with
  | none => exact absurd (List.find?_eq_none.mp hf q i.held) (by simp)
  | some p =>
    have hage : p.age = q.age := by simpa using List.find?_some hf
    rw [purpose_eq_of_age i.sound (List.mem_of_find?_eq_some hf) i.held hage]

theorem SentIs.exhausted (i : SentIs s q h) : exhausted s =
    if s.port.store.l ≤ q.count + 1 ∧ q.aim ≠ .departureNull then some q else none := by
  unfold Machine.exhausted
  rw [i.sentHeld]
  simp [Option.filter]

theorem SentIs.dropSent (i : SentIs s q h) : dropSent s =
    s.setAgenda { s.agenda with purposes := s.agenda.purposes.filter (· ≠ q) } := by
  unfold Machine.dropSent
  rw [i.sent]
  refine congrArg (fun ps => s.setAgenda { s.agenda with purposes := ps }) (List.filter_congr fun p hp => ?_)
  rw [Bool.eq_iff_iff, bne_iff_ne, decide_eq_true_iff]
  exact ⟨fun hne he => hne (by rw [he]), fun hne he => hne (purpose_eq_of_age i.sound hp i.held he)⟩

theorem SentIs.countSent_took (i : SentIs s q h) : countSent true s = Machine.dropSent s := by
  unfold countSent
  rw [i.sent]
  rfl

/-- A failure is counted against the sent purpose, which stays held, unless it goes at L or is a departure NULL. -/
theorem SentIs.countSent_failed (i : SentIs s q h) (hnull : q.aim ≠ .departureNull)
    (hstays : q.aim = .join ∨ q.aim = .found → q.count + 1 < s.port.store.l) :
    countSent false s = s.setAgenda { s.agenda with
      purposes := s.agenda.purposes.map (fun p => if p = q then countFailure s q else p) } := by
  unfold countSent
  rw [i.sent]
  dsimp only
  have hgone : (false || q.aim == .departureNull ||
      ((q.aim == .join || q.aim == .found) && (Machine.exhausted s).isSome)) = false := by
    rw [i.exhausted]
    by_cases hjf : q.aim = .join ∨ q.aim = .found
    · have := hstays hjf
      rw [if_neg (fun h => by omega)]
      simp [hnull]
    · push Not at hjf
      simp [hnull, hjf.1, hjf.2]
  rw [hgone, if_neg Bool.false_ne_true]
  refine congrArg (fun ps => s.setAgenda { s.agenda with purposes := ps }) (List.map_congr_left fun p hp => ?_)
  by_cases he : p = q
  · rw [if_pos (by rw [he]), if_pos he, he]
  · rw [if_neg (fun hage => he (purpose_eq_of_age i.sound hp i.held hage)), if_neg he]

end

end Sys2Proof.Machine
end


section
/-! The end of an attempt in FOUNDING, JOINING and LISTEN (R51, R52, R99, R100, R105). -/

set_option Elab.async false

namespace Sys2Proof.Machine

/-! ### The whole state after an attempt -/

section

variable {s : State} {a : Attempt} {c : Instr}

theorem attemptMade_founding (hs : s.control.state = .founding) :
    attemptMade a c s = foundingEnds (ended a c) (attemptPast (ended a c) s) := by
  unfold attemptMade attemptObserved
  rw [show (attemptPast (ended a c) s).control.state = _ from hs]

theorem attemptMade_joining (hs : s.control.state = .joining) :
    attemptMade a c s = joiningEnds (ended a c) (attemptPast (ended a c) s) := by
  unfold attemptMade attemptObserved
  rw [show (attemptPast (ended a c) s).control.state = _ from hs]

theorem attemptMade_listen (hs : s.control.state = .listen) :
    attemptMade a c s = listenObserves (headOf a) (attemptPast (ended a c) s) := by
  unfold attemptMade attemptObserved
  rw [show (attemptPast (ended a c) s).control.state = _ from hs]
  rfl

theorem postDuplicate_of_none {u : State} (h : u.record = none) (b : Bool) : postDuplicate b u = u := by
  unfold postDuplicate
  rw [h]
  simp

/-- Without a record the end of an attempt leaves what is made of it, but for the request line and the sent purpose. -/
theorem attemptEnds_of_none (h : (attemptMade a c s).record = none) : attemptEnds (responsesOf a c) a s =
    ((attemptMade a c s).setBus (attemptEnds (responsesOf a c) a s).bus).setAgenda
      { (attemptMade a c s).agenda with sent := if a.driven.isSome then none else s.agenda.sent } := by
  have hsent : (attemptMade a c s).agenda.sent = s.agenda.sent := attemptObserved_sent _ _
  rw [attemptEnds_eq_made, postDuplicate_of_none h, ← hsent]
  split <;> rfl

/-- An attempt that changes the membership controller alone. -/
theorem attemptEnds_quiet (hr : s.record = none) {k : Control}
    (h : attemptMade a c s = (attemptPast (ended a c) s).setControl k) : attemptEnds (responsesOf a c) a s =
    ((s.setBus (attemptEnds (responsesOf a c) a s).bus).setAgenda { s.agenda with
      idle := some (s.port.store.ti * 250), sent := if a.driven.isSome then none else s.agenda.sent }).setControl k := by
  have hstate := attemptEnds_of_none (a := a) (c := c) (s := s) (by rw [h]; exact hr)
  rw [hstate, h]
  rfl

end

/-! ### The judgements outside a record (R51, R52, R105) -/

theorem foundTaken_iff {n : Station} {fields : Vector Response 16} : foundTaken n fields = true ↔
    fields[n] = .ack ∧ ∀ m : Station, m ≠ n → fields[m] ≠ .refuse := by
  simp [foundTaken, or_iff_not_imp_left]

theorem joinTaken_iff {n : Station} {fields : Vector Response 16} : joinTaken n fields = true ↔
    (∀ m : Station, fields[m] ≠ .refuse) ∧ ∃ m : Station, m ≠ n ∧ fields[m] = .ack := by
  simp [joinTaken]

theorem replyTaken_iff {f : Frame} {v : Verdict} {fields : Vector Response 16} : replyTaken f v fields = true ↔
    ¬(f.members.getLsbD f.sender.val = true ∧ fields[f.sender] = .abstain) ∧
      (∀ m : Station, f.members.getLsbD m.val = true → fields[m] = .ack ∨ fields[m] = .abstain) ∧
      (v = .admitted → ∀ m : Station, f.members.getLsbD m.val = true → fields[m] ≠ .abstain) := by
  have hmem : ∀ m : Station, m ∈ setList f.members ↔ f.members.getLsbD m.val = true := fun m => by simp [setList, setHas]
  unfold replyTaken
  simp only [Bool.and_eq_true, Bool.not_eq_true', Bool.and_eq_false_iff, List.all_eq_true, List.mem_filter, hmem,
    Bool.or_eq_true, bne_iff_ne, beq_iff_eq, beq_eq_false_iff_ne, setHas, and_imp, and_assoc]
  refine and_congr (by rw [not_and_or, Bool.not_eq_true]) (and_congr ?_ ?_)
  · exact forall_congr' fun m => ⟨fun h hm => or_iff_not_imp_right.mpr (h hm),
      fun h hm => or_iff_not_imp_right.mp (h hm)⟩
  · exact or_iff_not_imp_left.trans (by rw [not_not])

/-! ### FOUNDING -/

theorem changeState_foreign {new : StationState} (h : new ≠ .founding) (s : State) :
    (changeState new s).control.foreign = s.control.foreign := by
  have hleft : (leftControl s.control).foreign = s.control.foreign := by
    unfold leftControl
    split <;> rfl
  rw [changeState_control, ← hleft]
  cases new <;> first | rfl | exact absurd rfl h

theorem foundingEnds_foreign (a : Attempt) (s : State) : (foundingEnds a s).control.foreign =
    (s.control.foreign || a.driven.isNone || decide (a.readback = some false)) := by
  have hmarked : (foundingMarked a s).control.foreign =
      (s.control.foreign || a.driven.isNone || decide (a.readback = some false)) := by
    rw [foundingMarked_eq, State.setControl_control]
    simp only [Bool.beq_eq_decide_eq]
  by_cases hfound : ∃ f ∈ a.driven, ∃ p, f.body = .found p
  · obtain ⟨f, hd, p, hb⟩ := hfound
    rw [foundingEnds_found hd hb]
    have hcount : (countSent false (foundingMarked a s)).control = (foundingMarked a s).control := by simp
    split
    · exact (changeState_foreign (by decide) _).trans hmarked
    · split
      · rw [(postFault_frame _ _ _ _ _ _).2.2.2.2.1, changeState_foreign (by decide), hcount]
        exact hmarked
      · rw [hcount]
        exact hmarked
  · push Not at hfound
    rw [foundingEnds_other hfound]
    exact hmarked

/-! ### An own FOUND (R51, R93, R102) -/

section

variable {s : State} {a : Attempt} {c : Instr} {f : Frame} {p : Params} {q : Purpose} {h : Option Handle}

theorem SentIs.attemptPast (i : SentIs s q h) (b : Attempt) : SentIs (attemptPast b s) q h :=
  ⟨agendaSound_of_same i.sound rfl rfl rfl, i.sent, i.held⟩

theorem SentIs.foundingMarked (i : SentIs s q h) (b : Attempt) : SentIs (foundingMarked b s) q h := by
  rw [foundingMarked_eq]
  exact ⟨agendaSound_of_same i.sound rfl rfl rfl, i.sent, i.held⟩

/-- In FOUNDING the agenda holds FOUND alone, so leaving it empties the agenda (R85, R95). -/
theorem leaveState_founding_purposes {u : State} (hs : u.control.state = .founding) (hfit : PurposesFit u) :
    (leaveState u).agenda.purposes = [] := by
  refine leaveState_purposes_eq_nil hfit ?_
  simp [hs]

theorem foundTaken_joins (hs : s.control.state = .founding) (hd : a.driven = some f) (hb : f.body = .found p)
    (htaken : foundTaken s.number (windowFields (responsesOf a c)) = true) : attemptMade a c s =
      changeState .member ((foundingMarked (ended a c) (attemptPast (ended a c) s)).setRecord
        (some (foundedRecord s.number p))) := by
  rw [attemptMade_founding hs, foundingEnds_found (a := ended a c) hd hb]
  exact if_pos htaken

theorem foundFailed_stays (i : SentIs s q h) (hs : s.control.state = .founding) (hd : a.driven = some f)
    (hb : f.body = .found p) (haim : q.aim = .found)
    (htaken : ¬foundTaken s.number (windowFields (responsesOf a c)) = true) (hl : q.count + 1 < s.port.store.l) :
    attemptMade a c s = (foundingMarked (ended a c) (attemptPast (ended a c) s)).setAgenda
      { (attemptPast (ended a c) s).agenda with
        purposes := s.agenda.purposes.map (fun x => if x = q then { q with count := q.count + 1 } else x) } := by
  have hi := (i.attemptPast (ended a c)).foundingMarked (ended a c)
  have hlm : q.count + 1 < (foundingMarked (ended a c) (attemptPast (ended a c) s)).port.store.l := by
    rw [foundingMarked_eq]
    exact hl
  rw [attemptMade_founding hs, foundingEnds_found (a := ended a c) hd hb]
  refine (if_neg htaken).trans ((if_neg ?_).trans ?_)
  · rw [hi.exhausted, if_neg (fun hx => by omega)]
    exact Bool.false_ne_true
  · rw [hi.countSent_failed (by simp [haim]) (fun _ => hlm), countFailure_eq, if_pos hlm, foundingMarked_eq]
    rfl

theorem foundFailed_spent (i : SentIs s q h) (hs : s.control.state = .founding) (hd : a.driven = some f)
    (hb : f.body = .found p) (haim : q.aim = .found)
    (htaken : ¬foundTaken s.number (windowFields (responsesOf a c)) = true) (hl : s.port.store.l ≤ q.count + 1) :
    attemptMade a c s = postFault .foundRefused none none none none (changeState .listen
      (countSent false (foundingMarked (ended a c) (attemptPast (ended a c) s)))) := by
  have hi := (i.attemptPast (ended a c)).foundingMarked (ended a c)
  rw [attemptMade_founding hs, foundingEnds_found (a := ended a c) hd hb]
  refine (if_neg htaken).trans (if_pos ?_)
  rw [hi.exhausted, if_pos ⟨by rw [foundingMarked_eq]; exact hl, by simp [haim]⟩]
  rfl

/-! ### An own JOIN (R52, R93, R103) -/

theorem joinTaken_waits (hs : s.control.state = .joining) (hd : a.driven = some f) (hb : f.body = .join p)
    (htaken : joinTaken s.number (windowFields (responsesOf a c)) = true) : attemptMade a c s =
      (dropPurposes (fun x => x == .join) (attemptPast (ended a c) s)).setControl
        { s.control with joinReply := some (4 * (s.port.store.ti * 250)) } := by
  rw [attemptMade_joining hs, joiningEnds_join (a := ended a c) hd hb]
  exact if_pos htaken

theorem joinFailed_stays (i : SentIs s q h) (hs : s.control.state = .joining) (hd : a.driven = some f)
    (hb : f.body = .join p) (haim : q.aim = .join)
    (htaken : ¬joinTaken s.number (windowFields (responsesOf a c)) = true) (hl : q.count + 1 < s.port.store.l) :
    attemptMade a c s = (attemptPast (ended a c) s).setAgenda { (attemptPast (ended a c) s).agenda with
      purposes := s.agenda.purposes.map (fun x => if x = q then { q with count := q.count + 1 } else x) } := by
  have hi := i.attemptPast (ended a c)
  have hlm : q.count + 1 < (attemptPast (ended a c) s).port.store.l := hl
  rw [attemptMade_joining hs, joiningEnds_join (a := ended a c) hd hb]
  refine (if_neg htaken).trans ((if_neg ?_).trans ?_)
  · rw [hi.exhausted, if_neg (fun hx => by omega)]
    exact Bool.false_ne_true
  · rw [hi.countSent_failed (by simp [haim]) (fun _ => hlm), countFailure_eq, if_pos hlm]
    rfl

theorem joinFailed_spent (i : SentIs s q h) (hs : s.control.state = .joining) (hd : a.driven = some f)
    (hb : f.body = .join p) (haim : q.aim = .join)
    (htaken : ¬joinTaken s.number (windowFields (responsesOf a c)) = true) (hl : s.port.store.l ≤ q.count + 1) :
    attemptMade a c s = joinTimedOut (countSent false (attemptPast (ended a c) s)) := by
  have hi := i.attemptPast (ended a c)
  rw [attemptMade_joining hs, joiningEnds_join (a := ended a c) hd hb]
  refine (if_neg htaken).trans (if_pos ?_)
  rw [hi.exhausted, if_pos ⟨hl, by simp [haim]⟩]
  rfl

end

theorem joinTimedOut_control (u : State) : (joinTimedOut u).control =
    { (changeState .listen u).control with note := some 0 } := by
  simp [joinTimedOut]

theorem joinTimedOut_purposes (u : State) : (joinTimedOut u).agenda.purposes = (leaveState u).agenda.purposes := by
  simp [joinTimedOut, changeState_agenda_listen]

theorem joinTimedOut_record (u : State) : (joinTimedOut u).record = u.record := by
  simp [joinTimedOut]

/-- In JOINING the one purpose that may be held is a JOIN (R84, R95). -/
theorem joining_purpose_unique {s : State} {q : Purpose} {h : Option Handle} (i : SentIs s q h)
    (hs : s.control.state = .joining) (hfit : PurposesFit s) : ∀ p ∈ s.agenda.purposes, p = q := by
  have haim : ∀ p ∈ s.agenda.purposes, p.aim = .join := by
    intro p hp
    have := hfit p hp
    rw [hs] at this
    simpa [aimFits] using this
  have hnodup : (s.agenda.purposes.map (fun p => p.aim.heldOnce)).Nodup :=
    List.pairwise_map.mpr (i.sound.1.imp fun hpq => hpq.2)
  exact fun p hp => List.inj_on_of_nodup_map hnodup hp i.held (by rw [haim p hp, haim q i.held])

theorem reported_congr {t u : State} {f : FaultRecord} (h : Reported t f) (hport : u.port = t.port) : Reported u f := by
  unfold Reported
  rw [hport]
  exact h

/-- A fault posted where no copy is held is reported, stamped with the clock (R161). -/
theorem reported_postFault {s u : State} (k : FaultKind) (n : Option Station) (hclock : u.port.clock = s.port.clock)
    (hrecord : u.record = none) : Reported (postFault k n none none none u)
      { kind := k, stamp := s.port.clock, station := n, slot := none, line := none, seq := none, cause := none } := by
  have h := (Posts.postFault k n none none none u).reported (List.mem_singleton.mpr rfl)
  unfold faultOf at h
  rw [hclock, hrecord] at h
  exact h

theorem attemptEnds_port_of_none {s : State} {a : Attempt} {c : Instr} (h : (attemptMade a c s).record = none) :
    (attemptEnds (responsesOf a c) a s).port = (attemptMade a c s).port := by
  rw [attemptEnds_of_none h]
  rfl

end Sys2Proof.Machine

namespace Sys2Proof.Proofs

open Sys2Proof.Machine

section

variable {s : State} {a : Attempt} {c : Instr} {f : Frame} {p : Params} {q : Purpose} {h : Option Handle}

theorem noRecord_of_founding (hp : Placed s) (hs : s.control.state = .founding ∨ s.control.state = .joining) :
    s.record = none := by
  rw [← Option.not_isSome_iff_eq_none, hp.record]
  rcases hs with hs | hs <;> simp [hs, StationState.holdsRecord]

/-- A FOUND judged taken makes the station a member of its own group, which offers what waited (R2, R102, R118). -/
theorem ownFound_taken (hp : Placed s) (hsound : AgendaSound s) (hs : s.control.state = .founding)
    (hd : a.driven = some f) (hb : f.body = .found p)
    (htaken : foundTaken s.number (windowFields (responsesOf a c)) = true) :
    let t := attemptEnds (responsesOf a c) a s
    t.control.state = .member ∧ t.record = some {
        members := 1#16 <<< s.number.val, miss := Vector.replicate 16 0, seq := 1, params := p,
        entries := [], join := none } ∧
      (AccountsSound s → OffersWhatWaited s t) := by
  intro t
  obtain ⟨-, hrecord, hcontrol, horigin, -, -, hagenda, -⟩ := attemptEnds_blocks s a c
  have hmade := foundTaken_joins (a := a) (c := c) hs hd hb htaken
  generalize hu : (foundingMarked (ended a c) (attemptPast (ended a c) s)).setRecord (some (foundedRecord s.number p)) =
    u at hmade
  have hublocks : u.origin = s.origin ∧ u.control.state = .founding ∧ PurposesFit u ∧ AgendaSound u := by
    rw [← hu, foundingMarked_eq]
    exact ⟨rfl, hs, hp.purposes, agendaSound_of_same hsound rfl rfl rfl⟩
  obtain ⟨huo, hus, hufit, husound⟩ := hublocks
  refine ⟨?_, ?_, fun haccounts => ?_⟩
  · rw [show t.control = _ from hcontrol, hmade, changeState_state]
  · rw [show t.record = _ from hrecord, hmade, (changeState_frame .member u).2.1, ← hu]
    rfl
  · refine offersWhatWaited_of_member huo haccounts.2.2.2.2 ?_ ?_ (offersHeld_congr ?_) ?_
    · unfold offersHeld
      rw [leaveState_founding_purposes hus hufit]
      rfl
    · rw [show t.origin = _ from horigin, hmade]
    · rw [show t.agenda = _ from hagenda, hmade]
    · refine agendaSound_of_same (agendaSound_changeState .member husound) ?_ ?_ ?_
      · rw [show t.agenda = _ from hagenda, hmade]
      · rw [show t.agenda = _ from hagenda, hmade]
      · have hport : t.port.store = s.port.store := ((SameHostSide.attemptEnds (s := s) _ _).mpr (.refl s)).store
        rw [hport, (changeState_frame .member u).2.2.2.1, ← hu, foundingMarked_eq]
        rfl

/-- A FOUND that failed is counted, or at L leads back to LISTEN with the fault (R93). -/
theorem ownFound_failed (hp : Placed s) (i : SentIs s q h) (hs : s.control.state = .founding)
    (hd : a.driven = some f) (hb : f.body = .found p) (haim : q.aim = .found)
    (htaken : ¬foundTaken s.number (windowFields (responsesOf a c)) = true) :
    let t := attemptEnds (responsesOf a c) a s
    t.record = none ∧
      (q.count + 1 < s.port.store.l →
        t.agenda.purposes = s.agenda.purposes.map (fun x => if x = q then { q with count := q.count + 1 } else x) ∧
        t.control = { s.control with foreign := s.control.foreign || decide (a.readback = some false) }) ∧
      (s.port.store.l ≤ q.count + 1 → t.control.state = .listen ∧ q ∉ t.agenda.purposes ∧
        holdsAim (· == .found) t = false ∧ Reported t {
          kind := .foundRefused, stamp := s.port.clock, station := none, slot := none, line := none, seq := none
          cause := none }) := by
  intro t
  obtain ⟨-, hrecord, hcontrol, -, -, -, hagenda, -⟩ := attemptEnds_blocks s a c
  have hnone := noRecord_of_founding hp (.inl hs)
  by_cases hl : q.count + 1 < s.port.store.l
  · have hmade := foundFailed_stays (a := a) (c := c) i hs hd hb haim htaken hl
    refine ⟨?_, fun _ => ⟨?_, ?_⟩, fun hge => absurd hl (by omega)⟩
    · rw [show t.record = _ from hrecord, hmade, foundingMarked_eq]
      exact hnone
    · rw [show t.agenda = _ from hagenda, hmade]
      rfl
    · rw [show t.control = _ from hcontrol, hmade, foundingMarked_eq]
      have hdriven : (ended a c).driven = some f := hd
      rw [hdriven, Option.isNone_some, Bool.or_false, ← Bool.beq_eq_decide_eq]
      rfl
  · have hmade := foundFailed_spent (a := a) (c := c) i hs hd hb haim htaken (by omega)
    generalize hu : countSent false (foundingMarked (ended a c) (attemptPast (ended a c) s)) = u at hmade
    have hre := Reacts.countSent false (foundingMarked (ended a c) (attemptPast (ended a c) s))
    rw [hu, foundingMarked_eq] at hre
    have hurecord : u.record = none := hre.record.trans hnone
    have hus : u.control.state = .founding := by
      rw [hre.control]
      exact hs
    have hmoved : (changeState .listen u).record = none ∧ (changeState .listen u).port.clock = s.port.clock := by
      obtain ⟨-, hr, -, hport, -⟩ := changeState_frame .listen u
      rw [hr, hport]
      exact ⟨hurecord, hre.host.clock⟩
    have hmaderecord : (attemptMade a c s).record = none := by
      rw [hmade, (postFault_frame _ _ _ _ _ _).2.2.1]
      exact hmoved.1
    have hpurposes : t.agenda.purposes = (leaveState u).agenda.purposes := by
      rw [show t.agenda = _ from hagenda, hmade, (postFault_frame _ _ _ _ _ _).2.2.2.1, changeState_agenda_listen]
    have hgone : t.agenda.purposes = [] := by
      rw [hpurposes]
      exact leaveState_founding_purposes hus (hre.fit hp.purposes)
    refine ⟨(show t.record = _ from hrecord).trans hmaderecord, fun hlt => absurd hlt hl, fun _ => ⟨?_, ?_, ?_, ?_⟩⟩
    · rw [show t.control = _ from hcontrol, hmade, (postFault_frame _ _ _ _ _ _).2.2.2.2.1, changeState_state]
    · rw [hgone]
      exact List.not_mem_nil
    · unfold holdsAim
      rw [hgone]
      rfl
    · refine reported_congr ?_ (attemptEnds_port_of_none hmaderecord)
      rw [hmade]
      exact reported_postFault _ _ hmoved.2 hmoved.1

/-- A JOIN judged taken waits for its reply (R52, R103). -/
theorem ownJoin_taken (hp : Placed s) (i : SentIs s q h) (hs : s.control.state = .joining)
    (hd : a.driven = some f) (hb : f.body = .join p)
    (htaken : joinTaken s.number (windowFields (responsesOf a c)) = true) :
    let t := attemptEnds (responsesOf a c) a s
    t.record = none ∧ t.agenda.purposes = s.agenda.purposes.filter (· ≠ q) ∧
      t.control = { s.control with joinReply := some (4 * (s.port.store.ti * 250)) } := by
  intro t
  obtain ⟨-, hrecord, hcontrol, -, -, -, hagenda, -⟩ := attemptEnds_blocks s a c
  have hmade := joinTaken_waits (a := a) (c := c) hs hd hb htaken
  refine ⟨?_, ?_, ?_⟩
  · rw [show t.record = _ from hrecord, hmade]
    exact noRecord_of_founding (s := s) hp (.inr hs)
  · rw [show t.agenda = _ from hagenda, hmade]
    change s.agenda.purposes.filter (fun x => !(x.aim == .join)) = _
    have hall := joining_purpose_unique i hs hp.purposes
    have hq : q.aim = .join := by
      have := hp.purposes q i.held
      rw [hs] at this
      simpa [aimFits] using this
    refine List.filter_congr fun x hx => ?_
    rw [hall x hx]
    simp [hq]
  · rw [show t.control = _ from hcontrol, hmade]
    rfl

/-- A JOIN that failed is counted, or at L leads back to LISTEN with an admission note and the fault (R93, R103). -/
theorem ownJoin_failed (hp : Placed s) (i : SentIs s q h) (hs : s.control.state = .joining)
    (hd : a.driven = some f) (hb : f.body = .join p) (haim : q.aim = .join)
    (htaken : ¬joinTaken s.number (windowFields (responsesOf a c)) = true) :
    let t := attemptEnds (responsesOf a c) a s
    t.record = none ∧
      (q.count + 1 < s.port.store.l →
        t.agenda.purposes = s.agenda.purposes.map (fun x => if x = q then { q with count := q.count + 1 } else x) ∧
        t.control = s.control) ∧
      (s.port.store.l ≤ q.count + 1 → t.control.state = .listen ∧ t.control.note = some 0 ∧
        t.control.joinReply = none ∧ holdsAim (· == .join) t = false ∧ Reported t {
          kind := .joinTimeout, stamp := s.port.clock, station := none, slot := none, line := none, seq := none
          cause := none }) := by
  intro t
  obtain ⟨-, hrecord, hcontrol, -, -, -, hagenda, -⟩ := attemptEnds_blocks s a c
  have hnone := noRecord_of_founding hp (.inr hs)
  by_cases hl : q.count + 1 < s.port.store.l
  · have hmade := joinFailed_stays (a := a) (c := c) i hs hd hb haim htaken hl
    refine ⟨?_, fun _ => ⟨?_, ?_⟩, fun hge => absurd hl (by omega)⟩
    · rw [show t.record = _ from hrecord, hmade]
      exact hnone
    · rw [show t.agenda = _ from hagenda, hmade]
      rfl
    · rw [show t.control = _ from hcontrol, hmade]
      rfl
  · have hmade := joinFailed_spent (a := a) (c := c) i hs hd hb haim htaken (by omega)
    generalize hu : countSent false (attemptPast (ended a c) s) = u at hmade
    have hre := Reacts.countSent false (attemptPast (ended a c) s)
    rw [hu] at hre
    have hmaderecord : (attemptMade a c s).record = none := by
      rw [hmade, joinTimedOut_record, hre.record]
      exact hnone
    have hus : u.control.state = .joining := by
      rw [hre.control]
      exact hs
    have htcontrol : t.control = { (changeState .listen u).control with note := some 0 } := by
      rw [show t.control = _ from hcontrol, hmade, joinTimedOut_control]
    refine ⟨(show t.record = _ from hrecord).trans hmaderecord, fun hlt => absurd hlt hl,
      fun _ => ⟨?_, ?_, ?_, ?_, ?_⟩⟩
    · rw [htcontrol]
      exact changeState_state .listen u
    · rw [htcontrol]
    · rw [htcontrol, changeState_control, leftControl, hus]
      rfl
    · unfold holdsAim
      rw [show t.agenda = _ from hagenda, hmade]
      dsimp only
      rw [joinTimedOut_purposes, leaveState_agenda, hus, List.any_eq_false]
      intro x hx
      simpa using (List.mem_filter.mp hx).2
    · refine reported_congr ?_ (attemptEnds_port_of_none hmaderecord)
      rw [hmade]
      have hpost := (joinTimedOut_posts u).reported (List.mem_singleton.mpr rfl)
      unfold faultOf at hpost
      rw [hre.host.clock, hre.record, show (attemptPast (ended a c) s).record = none from hnone] at hpost
      exact hpost

end

/-- Settles O48: the foreign-attempt flag, then the own FOUND and the own JOIN. -/
theorem ownFoundAndJoinAreJudgedHere : Obligations.OwnFoundAndJoinAreJudgedHere := by
  refine ⟨fun s a c hend hs hplace => ?_, fun s a c f p q h hend hd hplace hsound hsent hheld => ?_⟩
  · have hp := placeSound_iff.mp hplace
    obtain ⟨-, -, hcontrol, -⟩ := attemptEnds_blocks s a c
    refine ⟨attemptEnds (responsesOf a c) a s, hend.exec, ?_, fun hother => ?_⟩
    · rw [hcontrol, attemptMade_founding hs]
      exact foundingEnds_foreign _ _
    · refine attemptEnds_quiet (noRecord_of_founding hp (.inl hs)) ?_
      rw [attemptMade_founding hs, foundingEnds_other (a := ended a c) (fun f hf p => hother f p hf), foundingMarked_eq,
        Bool.beq_eq_decide_eq]
      rfl
  · have hp := placeSound_iff.mp hplace
    have i : SentIs s q h := ⟨hsound, hsent, hheld⟩
    refine ⟨attemptEnds (responsesOf a c) a s, hend.exec, fun hs hb haim => ⟨fun htaken => ?_, fun htaken => ?_⟩,
      fun hs hb haim => ?_⟩
    · exact ownFound_taken hp hsound hs hd hb (foundTaken_iff.mpr htaken)
    · exact ownFound_failed hp i hs hd hb haim (mt foundTaken_iff.mp htaken)
    · by_cases htaken : joinTaken s.number (windowFields (responsesOf a c)) = true
      · have hjoin := ownJoin_taken (c := c) hp i hs hd hb htaken
        exact ⟨hjoin.1, fun _ => hjoin.2, fun hno => absurd (joinTaken_iff.mp htaken) hno⟩
      · have hjoin := ownJoin_failed (c := c) hp i hs hd hb haim htaken
        exact ⟨hjoin.1, fun hyes => absurd (joinTaken_iff.mpr hyes) htaken, fun _ => hjoin.2⟩

end Sys2Proof.Proofs
end


section
/-! An attempt observed in LISTEN, and the REPLY a JOINING station hears (R99, R105). -/

set_option Elab.async false

namespace Sys2Proof.Machine

/-! ### LISTEN -/

section

variable {s : State} {head : Option Frame}

theorem listenObserves_backoff (h : s.control.backoff.isSome = true) : listenObserves head s =
    s.setControl { s.control with headNoted := s.control.headNoted || head.isSome } := by
  unfold listenObserves
  dsimp only
  rw [if_pos h]
  cases head with
  | none => simp; rfl
  | some f => simp

theorem listenObserves_unread (h : s.control.backoff = none) : listenObserves none s =
    s.setControl { s.control with quiet := some (quietInterval s) } := by
  unfold listenObserves
  rw [h]
  rfl

theorem listenObserves_noted (h : s.control.backoff = none) {f : Frame} {k : Nat} (hk : s.control.note = some k)
    (hn : f.members.getLsbD s.number.val = true) (hl : k + 1 < s.port.store.l) : listenObserves (some f) s =
    s.setControl { s.control with quiet := some (quietInterval s), note := some (k + 1) } := by
  unfold listenObserves
  rw [h, hk]
  exact (if_neg Bool.false_ne_true).trans (if_pos ⟨hn, hl⟩)

theorem listenObserves_joins (h : s.control.backoff = none) {f : Frame}
    (hjoins : s.control.note = none ∨ f.members.getLsbD s.number.val = false ∨
      (∃ k, s.control.note = some k ∧ s.port.store.l ≤ k + 1)) :
    listenObserves (some f) s = changeState .joining s := by
  unfold listenObserves
  rw [h]
  cases hk : s.control.note with
  | none => rfl
  | some k =>
    refine (if_neg Bool.false_ne_true).trans (if_neg ?_)
    rintro ⟨hn, hl⟩
    rcases hjoins with hnone | hnot | ⟨k', hk', hl'⟩
    · rw [hk] at hnone
      cases hnone
    · exact Bool.false_ne_true (hnot.symm.trans hn)
    · rw [hk] at hk'
      obtain rfl := Option.some.inj hk'
      omega

end

/-- JOINING is entered with a JOIN purpose, or one of the kinds it may not be held beside (R100). -/
theorem changeState_joining_held (s : State) :
    holdsAim (fun x => x == .join || x == .found) (changeState .joining s) = true := by
  rw [changeState_joining]
  obtain ⟨p, hp, haim⟩ := addPurpose_held (a := .join) (s := (markState .joining (leaveState s)).setControl
    { (markState .joining (leaveState s)).control with note := none }) (by simp [takesIn])
  refine List.any_eq_true.mpr ⟨p, hp, ?_⟩
  rcases haim with haim | haim
  · simp [haim]
  · cases ha : p.aim <;> simp_all [Aim.clashes]

/-- From an empty agenda JOINING holds the JOIN alone. -/
theorem changeState_joining_purposes {s : State} (h : s.agenda.purposes = []) : (changeState .joining s).agenda.purposes =
    [{ aim := .join, age := s.agenda.nextAge, count := 0, setAside := none }] := by
  have hnil := leaveState_purposes_nil h
  have hage : (leaveState s).agenda.nextAge = s.agenda.nextAge := by rw [leaveState_agenda]
  rw [changeState_joining, addPurpose]
  rw [if_pos (by simp [takesIn, hnil])]
  simp [hnil, hage]

theorem postDuplicate_stateCause (b : Bool) (s : State) :
    (postDuplicate b s).port.stateCause = s.port.stateCause := by
  unfold postDuplicate
  split
  · rcases postFault_cases .duplicateSeen (some s.number) none none none s with ⟨-, heq⟩ | ⟨-, heq⟩ <;> rw [heq] <;> rfl
  · rfl

/-! ### A REPLY (R105) -/

/-- What a JOINING station makes of a good frame it received. -/
theorem joiningEnds_reply {s : State} {a : Attempt} {f : Frame} {v : Verdict} {n : Station} {count : Nat}
    {miss : Vector Nat 16} {p : Params} (hd : a.driven = none) (hf : goodFrame a = some f)
    (hb : f.body = .reply v n count miss p) : joiningEnds a s =
      if n = s.number ∧ replyTaken f v (windowFields a.responses) = true then replyHeard f v count p s else s := by
  simp only [joiningEnds, hd, hf, hb]

theorem frameOf_received {a : Attempt} {c : Instr} (hd : a.driven = none) : goodFrame (ended a c) = frameOf a := by
  unfold frameOf
  rw [hd]
  rfl

/-- JOINING holds a JOIN alone, so removing it empties the agenda. -/
theorem joining_drop {s : State} (hs : s.control.state = .joining) (hfit : PurposesFit s) :
    s.agenda.purposes.filter (fun p => !(p.aim == .join)) = [] := by
  rw [List.filter_eq_nil_iff]
  intro p hp
  have := hfit p hp
  rw [hs] at this
  simpa [aimFits] using this

end Sys2Proof.Machine

namespace Sys2Proof.Proofs

open Sys2Proof.Machine

/-- Settles O49: the branches of the observation. -/
theorem listenObservesAttempts : Obligations.ListenObservesAttempts := by
  intro s a c hend hs again
  obtain ⟨-, hrecord, hcontrol, horigin, hclaim, -, hagenda, hport⟩ := attemptEnds_blocks s a c
  have hmade := attemptMade_listen (a := a) (c := c) hs
  have hkeep : (listenObserves (headOf a) (attemptPast (ended a c) s)).record = s.record ∧
      (listenObserves (headOf a) (attemptPast (ended a c) s)).origin = s.origin ∧
      (listenObserves (headOf a) (attemptPast (ended a c) s)).claim = s.claim := by
    have hjoin : ∀ u : State, (changeState .joining u).record = u.record ∧ (changeState .joining u).origin = u.origin ∧
        (changeState .joining u).claim = u.claim := fun u =>
      ⟨(changeState_frame .joining u).2.1, changeState_origin u (by decide), (changeState_frame .joining u).2.2.1⟩
    unfold listenObserves
    dsimp only
    split
    · split <;> exact ⟨rfl, rfl, rfl⟩
    · split
      · exact ⟨rfl, rfl, rfl⟩
      · exact hjoin _
      · split
        · exact ⟨rfl, rfl, rfl⟩
        · exact hjoin _
  rw [← hmade] at hkeep
  refine ⟨attemptEnds (responsesOf a c) a s, hend.exec, hrecord.trans hkeep.1, horigin.trans hkeep.2.1,
    hclaim.trans hkeep.2.2, fun hb => ?_, fun hb hh => ?_, fun hb f hf => ⟨fun k hk hn hl => ?_, fun hjoins => ?_⟩⟩
  · rw [hcontrol, hmade, listenObserves_backoff (s := attemptPast (ended a c) s) (Option.isSome_iff_ne_none.mpr hb)]
    rfl
  · rw [hcontrol, hmade, hh, listenObserves_unread (s := attemptPast (ended a c) s) hb]
    rfl
  · rw [hcontrol, hmade, hf, listenObserves_noted (s := attemptPast (ended a c) s) hb hk hn hl]
    rfl
  · rw [hf, listenObserves_joins (s := attemptPast (ended a c) s) hb hjoins] at hmade
    refine ⟨?_, fun hplace => ?_, ?_, ?_⟩
    · rw [hcontrol, hmade, changeState_control, leftControl, show (attemptPast (ended a c) s).control.state = _ from hs]
      rfl
    · have hnil : s.agenda.purposes = [] :=
        purposesFit_eq_nil (placeSound_iff.mp hplace).purposes (by rw [hs]; exact fun _ => rfl)
      rw [hagenda, hmade]
      exact changeState_joining_purposes (s := attemptPast (ended a c) s) hnil
    · unfold holdsAim
      rw [hagenda, hmade]
      exact changeState_joining_held _
    · rw [hport, postDuplicate_stateCause, hmade, (changeState_frame .joining _).2.2.2.1]

section

variable {s : State} {a : Attempt} {c : Instr} {f : Frame} {count : Nat} {p : Params}

/-- An ADMITTED REPLY heard loads the record (R2, R105). -/
theorem heard_admitted (hs : s.control.state = .joining)
    (hmade : attemptMade a c s = replyHeard f .admitted count p (attemptPast (ended a c) s)) :
    let t := attemptEnds (responsesOf a c) a s
    t.control = { s.control with state := .syncing, joinReply := none } ∧
      holdsAim (· == .join) t = false ∧
      t.record = some {
        members := f.members, miss := Vector.replicate 16 0, seq := f.seq + 1, params := p,
        entries := []
        join := some {
          joiner := s.number, respondent := f.sender, verdict := .admitted, phase := .sending,
          cursor := 0, expected := count, waiting := [] } } := by
  intro t
  obtain ⟨-, hrecord, hcontrol, -, -, -, hagenda, -⟩ := attemptEnds_blocks s a c
  have hjoined : attemptMade a c s =
      changeState .syncing ((attemptPast (ended a c) s).setRecord (some (loadedRecord s.number f count p))) := hmade
  have hstate : ((attemptPast (ended a c) s).setRecord (some (loadedRecord s.number f count p))).control.state = .joining :=
    hs
  refine ⟨?_, ?_, ?_⟩
  · rw [show t.control = _ from hcontrol, hjoined, changeState_control, leftControl, hstate]
    rfl
  · unfold holdsAim
    rw [show t.agenda = _ from hagenda, hjoined, changeState_syncing, List.any_eq_false]
    intro x hx
    have hleft : ∀ y ∈ (leaveState ((attemptPast (ended a c) s).setRecord
        (some (loadedRecord s.number f count p)))).agenda.purposes, y.aim ≠ .join := by
      rw [leaveState_agenda, hstate]
      intro y hy
      simpa using (List.mem_filter.mp hy).2
    rcases updateWant_agenda_cases (markState .syncing (leaveState ((attemptPast (ended a c) s).setRecord
        (some (loadedRecord s.number f count p))))) with heq | ⟨age, heq, -⟩ | ⟨-, heq⟩ <;> rw [heq] at hx
    · simpa using hleft x hx
    · rcases List.mem_append.mp hx with hx | hx
      · simpa using hleft x hx
      · obtain rfl := List.mem_singleton.mp hx
        exact Bool.false_ne_true
    · simpa using hleft x (List.mem_of_mem_filter hx)
  · rw [show t.record = _ from hrecord, hjoined, (changeState_frame .syncing _).2.1]
    rfl

/-- A DEFERRED REPLY heard starts the backoff with an empty agenda (R105). -/
theorem heard_deferred (hp : Placed s) (hs : s.control.state = .joining)
    (hmade : attemptMade a c s = replyHeard f .deferred count p (attemptPast (ended a c) s)) :
    let t := attemptEnds (responsesOf a c) a s
    t.record = none ∧ t.agenda.purposes = [] ∧
      t.control = { s.control with
        joinReply := none, backoff := some ((s.number.val + 1) * 100, .sendJoin), headNoted := false } := by
  intro t
  obtain ⟨-, hrecord, hcontrol, -, -, -, hagenda, -⟩ := attemptEnds_blocks s a c
  refine ⟨?_, ?_, ?_⟩
  · rw [show t.record = _ from hrecord, hmade]
    exact noRecord_of_founding (s := s) hp (.inr hs)
  · rw [show t.agenda = _ from hagenda, hmade]
    exact joining_drop hs hp.purposes
  · rw [show t.control = _ from hcontrol, hmade]
    rfl

/-- A REPLY heard that bars the station leads to ISOLATED with its fault (R105). -/
theorem heard_barred (hp : Placed s) (hs : s.control.state = .joining) {k : FaultKind}
    (hmade : attemptMade a c s =
      postFault k (some f.sender) none none none (changeState .isolated (attemptPast (ended a c) s))) :
    let t := attemptEnds (responsesOf a c) a s
    t.control.state = .isolated ∧ t.record = none ∧ t.agenda.purposes = [] ∧ t.control.joinReply = none ∧
      t.control.backoff = none ∧ t.bus.observing = false ∧ t.bus.request = false ∧ Reported t {
        kind := k, stamp := s.port.clock, station := some f.sender, slot := none, line := none, seq := none
        cause := none } := by
  intro t
  obtain ⟨-, hrecord, hcontrol, -, -, -, hagenda, -⟩ := attemptEnds_blocks s a c
  have hmoved := changeState_frame .isolated (attemptPast (ended a c) s)
  have hnone : (changeState .isolated (attemptPast (ended a c) s)).record = none := by
    rw [hmoved.2.1]
    exact noRecord_of_founding (s := s) hp (.inr hs)
  have hmaderecord : (attemptMade a c s).record = none := by
    rw [hmade, (postFault_frame _ _ _ _ _ _).2.2.1]
    exact hnone
  have htcontrol : t.control = (changeState .isolated (attemptPast (ended a c) s)).control := by
    rw [show t.control = _ from hcontrol, hmade, (postFault_frame _ _ _ _ _ _).2.2.2.2.1]
  have hobserving : t.bus.observing = false := by
    have hbus := congrArg Bus.observing (attemptEnds_bus s a c)
    rw [hmade, (postFault_frame _ _ _ _ _ _).2.1, changeState_bus_off _ (.inr rfl),
      Observing.stopObserving_bus_none (s := attemptPast (ended a c) s) rfl] at hbus
    exact hbus
  refine ⟨?_, (show t.record = _ from hrecord).trans hmaderecord, ?_, ?_, ?_, hobserving, ?_, ?_⟩
  · rw [htcontrol, changeState_state]
  · rw [show t.agenda = _ from hagenda, hmade, (postFault_frame _ _ _ _ _ _).2.2.2.1, changeState_agenda_off _ (.inr rfl)]
  · rw [htcontrol, changeState_control]
    rfl
  · rw [htcontrol, changeState_control]
    rfl
  · have hline : LineFollows t := by
      rw [show t = _ from attemptEnds_eq_made s a c]
      exact lineFollows_updateRequest _
    unfold LineFollows at hline
    rw [hline, hobserving]
    rfl
  · refine reported_congr ?_ (attemptEnds_port_of_none hmaderecord)
    rw [hmade]
    refine reported_postFault _ _ ?_ hnone
    rw [hmoved.2.2.2.1]
    rfl

end

/-- Settles O50: the attempts that are no REPLY to this station, then a REPLY by its verdict. -/
theorem joiningHearsItsReply : Obligations.JoiningHearsItsReply := by
  refine ⟨fun s a c hend hs hplace hother hnone => ?_, fun s a c f v n count miss p hend hs hplace hd hf hb => ?_⟩
  · have hp := placeSound_iff.mp hplace
    refine ⟨attemptEnds (responsesOf a c) a s, hend.exec, ?_⟩
    refine attemptEnds_quiet (noRecord_of_founding hp (.inr hs)) (k := s.control) ?_
    rw [attemptMade_joining hs]
    rcases joiningEnds_other (a := ended a c) (fun f hf p => hother f p hf) (attemptPast (ended a c) s) with
      heq | ⟨f, v, count, m, p, hd, hf, hb, -, -⟩
    · exact heq
    · exact absurd hb (hnone hd f v _ count m p ((frameOf_received hd).symm.trans hf))
  · have hp := placeSound_iff.mp hplace
    intro fields named taken fault
    have hmade : attemptMade a c s = if n = s.number ∧ replyTaken f v fields = true then
        replyHeard f v count p (attemptPast (ended a c) s) else attemptPast (ended a c) s := by
      rw [attemptMade_joining hs]
      exact joiningEnds_reply (a := ended a c) hd ((frameOf_received hd).trans hf) hb
    have htaken : (n = s.number ∧ replyTaken f v fields = true) ↔ taken := and_congr_right fun _ => replyTaken_iff
    refine ⟨attemptEnds (responsesOf a c) a s, hend.exec, fun hno => ?_, fun hyes hv => ?_, fun hyes hv => ?_,
      fun hyes hv => ?_⟩
    · rw [if_neg (mt htaken.mp hno)] at hmade
      have hnone := noRecord_of_founding hp (.inr hs)
      obtain ⟨-, hrecord, -⟩ := attemptEnds_blocks s a c
      refine ⟨?_, ?_⟩
      · rw [hrecord, hmade]
        exact hnone
      · refine (attemptEnds_quiet hnone (k := s.control) hmade).trans ?_
        rw [hd]
        rfl
    · rw [if_pos (htaken.mpr hyes), hv] at hmade
      exact heard_admitted hs hmade
    · rw [if_pos (htaken.mpr hyes), hv] at hmade
      exact heard_deferred hp hs hmade
    · rw [if_pos (htaken.mpr hyes)] at hmade
      rcases hv with hv | hv <;> subst hv <;> exact heard_barred hp hs hmade

end Sys2Proof.Proofs
end


section
/-! A station's own departure: what becomes of its records and where it goes (R36, R60, R113, R114, R133, R150). -/

set_option Elab.async false

namespace Sys2Proof.Machine

/-! ### The records of a station that departs -/

/-- The completions of the claims and raises that end with a departure (R133, R150). -/
def departureCompletions (s : State) : List Completion :=
  s.claim.grants.filterMap grantDeparting ++
    (s.origin.raises.filter (fun x => x.state != .queued)).map (fun x => .raiseDiscarded x.id)

theorem selfDeparts_completions (s : State) :
    (selfDeparts s).port.completions = s.port.completions ++ departureCompletions s := by
  simp [selfDeparts, originDeparts, claimDeparts, departureCompletions]

theorem selfDeparts_lines (s : State) (n : Line) :
    (selfDeparts s).origin.lines[n] = lineDeparts s.origin.lines[n] := by
  simp [selfDeparts, originDeparts, claimDeparts]

theorem selfDeparts_raises (s : State) : (selfDeparts s).origin.raises =
    (s.origin.raises.filter (fun x => x.state == .queued)).map (fun x => { x with timer := none }) := by
  simp [selfDeparts, originDeparts, claimDeparts]

theorem lineDeparts_eq (l : LineRecord) : lineDeparts l =
    if l.state = .want ∨ l.state = .offered ∨ l.state = .served then
      { l with state := .idle, memo := false, handle := none, timer := none }
    else { l with timer := none } := by
  unfold lineDeparts
  cases h : l.state <;> simp

/-- Where a departed station goes: OFFLINE with LEFT when a LEAVE is held, LISTEN with the backoff timer otherwise
(R113, R114). -/
def goesAway (leaves : Bool) (s : State) : State :=
  if leaves then leaveEnds (selfDeparts s) else listenWithBackoff (selfDeparts s)

theorem goesAway_offline (s : State) :
    goesAway true s = changeState .offline (postCompletions [.leaveLeft] (selfDeparts s)) := rfl

theorem goesAway_listen (s : State) :
    goesAway false s = changeState .listen (startBackoff .listen (selfDeparts s)) := rfl

theorem goesAway_blocks (leaves : Bool) (s : State) : let t := goesAway leaves s
    t.record = none ∧ t.agenda.purposes = [] ∧ t.claim.grants = [] ∧ t.origin = (selfDeparts s).origin ∧
      t.port.completions = s.port.completions ++ departureCompletions s ++ (if leaves then [.leaveLeft] else []) := by
  obtain ⟨-, -, hrecord, hagenda, -⟩ := selfDeparts_frame s
  have hcompletions := selfDeparts_completions s
  have hgrants := selfDeparts_grants s
  dsimp only
  cases leaves
  · obtain ⟨-, hr, hc, hp, -⟩ := changeState_frame .listen (startBackoff .listen (selfDeparts s))
    rw [goesAway_listen]
    refine ⟨hr.trans hrecord, ?_, by rw [hc]; exact hgrants, changeState_origin _ (by decide), ?_⟩
    · rw [changeState_agenda_listen]
      exact leaveState_purposes_nil (by rw [show (startBackoff .listen (selfDeparts s)).agenda = _ from hagenda])
    · rw [hp]
      exact hcompletions.trans (by simp)
  · obtain ⟨-, hr, hc, hp, -⟩ := changeState_frame .offline (postCompletions [.leaveLeft] (selfDeparts s))
    rw [goesAway_offline]
    refine ⟨hr.trans hrecord, by rw [changeState_agenda_off _ (.inl rfl)], by rw [hc]; exact hgrants,
      changeState_origin _ (by decide), ?_⟩
    rw [hp]
    change (selfDeparts s).port.completions ++ _ = _
    rw [hcompletions]
    rfl

theorem leftControl_cause (c : Control) : (leftControl c).cause = if c.state = .departing then none else c.cause := by
  unfold leftControl
  cases hs : c.state <;> simp

theorem leftControl_backoff (c : Control) : (leftControl c).backoff = c.backoff := by
  unfold leftControl
  cases hs : c.state <;> rfl

theorem goesAway_control (leaves : Bool) (s : State) : let t := goesAway leaves s
    (leaves = true → t.control.state = .offline) ∧
      (leaves = false → t.control.state = .listen ∧ t.control.quiet = none ∧
        t.control.backoff = some ((s.number.val + 1) * 100, .listen)) ∧
      t.control.cause = if s.control.state = .departing then none else s.control.cause := by
  obtain ⟨hnumber, -, -, -, hcontrol, -⟩ := selfDeparts_frame s
  dsimp only
  cases leaves
  · have hbackoff : (leftControl (startBackoff .listen (selfDeparts s)).control).backoff =
        some ((s.number.val + 1) * 100, .listen) := by
      rw [leftControl_backoff]
      change some (((selfDeparts s).number.val + 1) * 100, FollowOn.listen) = _
      rw [hnumber]
    have hcause := leftControl_cause (startBackoff .listen (selfDeparts s)).control
    rw [goesAway_listen, changeState_control]
    refine ⟨fun h => absurd h Bool.false_ne_true, fun _ => ⟨rfl, ?_, hbackoff⟩, hcause.trans ?_⟩
    · simp only [enteredControl, hbackoff]
      rfl
    · change (if (selfDeparts s).control.state = .departing then none else (selfDeparts s).control.cause) = _
      rw [hcontrol]
  · have hcause := leftControl_cause (postCompletions [.leaveLeft] (selfDeparts s)).control
    rw [goesAway_offline, changeState_control]
    refine ⟨fun _ => rfl, fun h => absurd h.symm Bool.false_ne_true, hcause.trans ?_⟩
    change (if (selfDeparts s).control.state = .departing then none else (selfDeparts s).control.cause) = _
    rw [hcontrol]

theorem goesAway_posts (leaves : Bool) (s : State) : Posts [] s (goesAway leaves s) := by
  cases leaves
  · exact (selfDeparts_posts s).then_none (listenWithBackoff_posts _)
  · exact (selfDeparts_posts s).then_none (leaveEnds_posts _)

/-- A departure at a judgement, with the fault about the station's own place before it (R56, R114). -/
theorem ownDeparture_eq {cause : DepartureCause} {s : State} (h : cause = .left → s.control.state = .leaving) :
    ownDeparture cause s = goesAway (s.control.state == .leaving)
      (if cause = .left then s else postFault .evicted (some s.number) none none none s) := by
  unfold ownDeparture goesAway
  by_cases hs : s.control.state = .leaving
  · rw [if_pos hs, hs]
    cases cause <;> rfl
  · rw [if_neg hs, if_neg (mt h hs), if_neg (by simpa using hs)]

theorem postFault_completions (k : FaultKind) (a : Option Station) (b : Option Slot) (c : Option Line)
    (d : Option DepartureCause) (s : State) : (postFault k a b c d s).port.completions = s.port.completions := by
  rcases postFault_cases k a b c d s with ⟨-, heq⟩ | ⟨-, heq⟩ <;> rw [heq] <;> rfl

theorem postDepartures_completions (ds : List (Station × DepartureCause)) (s : State) :
    (postDepartures ds s).port.completions = s.port.completions :=
  foldl_keeps (g := fun u : State => u.port.completions) (fun _ _ => postFault_completions _ _ _ _ _ _) _ s

/-! ### A DEPARTING station that waits on -/

theorem dropSent_eq (s : State) : dropSent s = s.setAgenda { s.agenda with
    purposes := s.agenda.purposes.filter (fun p => !s.agenda.sent.any (fun y => y.purpose.age == p.age)) } := by
  unfold dropSent
  cases s.agenda.sent with
  | none => simp; rfl
  | some x => simp [bne, Bool.beq_comm]

theorem postDuplicate_port (b : Bool) (s : State) : (postDuplicate b s).port = { s.port with
    faults := (postDuplicate b s).port.faults, overflow := (postDuplicate b s).port.overflow } := by
  unfold postDuplicate
  split
  · rcases postFault_cases .duplicateSeen (some s.number) none none none s with ⟨-, heq⟩ | ⟨-, heq⟩ <;> rw [heq] <;> rfl
  · rfl

end Sys2Proof.Machine

namespace Sys2Proof.Proofs

open Sys2Proof.Machine

/-- What holds of the station after `goesAway`, in the words of the obligation. -/
theorem goneAway {s u t : State} (leaves : Prop) [Decidable leaves]
    (horigin : u.origin = s.origin) (hclaim : u.claim = s.claim) (hcontrol : u.control = s.control)
    (hnumber : u.number = s.number) (hcompletions : u.port.completions = s.port.completions)
    (hrecord : t.record = (goesAway (decide leaves) u).record) (hto : t.origin = (goesAway (decide leaves) u).origin)
    (htc : t.claim = (goesAway (decide leaves) u).claim) (htk : t.control = (goesAway (decide leaves) u).control)
    (htp : t.port.completions = (goesAway (decide leaves) u).port.completions)
    (hta : t.agenda.purposes = (goesAway (decide leaves) u).agenda.purposes) :
    t.record = none ∧ t.agenda.purposes = [] ∧ t.claim.grants = [] ∧
      (∀ n : Line, let l := s.origin.lines[n]
        t.origin.lines[n] = if l.state = .want ∨ l.state = .offered ∨ l.state = .served then
          { l with state := .idle, memo := false, handle := none, timer := none }
        else { l with timer := none }) ∧
      t.origin.raises = (s.origin.raises.filter (fun x => x.state == .queued)).map
        (fun x => { x with timer := none }) ∧
      t.port.completions = s.port.completions ++
        s.claim.grants.filterMap (fun g => match g.state with
          | .unread => none
          | .inService => some (.grantLostDeparted g.handle)
          | .finishing => some (.finishLate g.handle)) ++
        (s.origin.raises.filter (fun x => x.state != .queued)).map (fun x => .raiseDiscarded x.id) ++
        (if leaves then [.leaveLeft] else []) ∧
      (leaves → t.control.state = .offline) ∧
      (¬ leaves → t.control.state = .listen ∧ t.control.quiet = none ∧
        t.control.backoff = some ((s.number.val + 1) * 100, .listen)) ∧
      t.control.cause = (if s.control.state = .departing then none else s.control.cause) := by
  obtain ⟨hnone, hpurposes, hgrants, hgoneorigin, hgonecompletions⟩ := goesAway_blocks (decide leaves) u
  obtain ⟨hoffline, hlisten, hcause⟩ := goesAway_control (decide leaves) u
  rw [hnumber] at hlisten
  rw [hcontrol] at hcause
  rw [hcompletions] at hgonecompletions
  refine ⟨hrecord.trans hnone, hta.trans hpurposes, by rw [htc]; exact hgrants, fun n => ?_, ?_, ?_, fun hl => ?_,
    fun hl => ?_, ?_⟩
  · dsimp only
    rw [hto, hgoneorigin, selfDeparts_lines, lineDeparts_eq, horigin]
  · rw [hto, hgoneorigin, selfDeparts_raises, horigin]
  · rw [htp, hgonecompletions]
    unfold departureCompletions
    rw [hclaim, horigin, ← List.append_assoc]
    simp only [decide_eq_true_eq]
    rfl
  · rw [htk]
    exact hoffline (decide_eq_true hl)
  · rw [htk]
    exact hlisten (decide_eq_false hl)
  · rw [htk]
    exact hcause

theorem attemptEnds_port_of_gone {s : State} {a : Attempt} {c : Instr}
    (h : (attemptEnds (responsesOf a c) a s).record = none) :
    (attemptEnds (responsesOf a c) a s).port = (attemptMade a c s).port :=
  attemptEnds_port_of_none ((attemptEnds_blocks s a c).2.1.symm.trans h)

/-- The same of the station as the attempt has ended. -/
theorem endedGone {s u : State} {a : Attempt} {c : Instr} (leaves : Prop) [Decidable leaves]
    (horigin : u.origin = s.origin) (hclaim : u.claim = s.claim) (hcontrol : u.control = s.control)
    (hnumber : u.number = s.number) (hcompletions : u.port.completions = s.port.completions)
    (hmade : attemptMade a c s = goesAway (decide leaves) u) :
    let t := attemptEnds (responsesOf a c) a s
    t.record = none ∧ t.agenda.purposes = [] ∧ t.claim.grants = [] ∧
      (∀ n : Line, let l := s.origin.lines[n]
        t.origin.lines[n] = if l.state = .want ∨ l.state = .offered ∨ l.state = .served then
          { l with state := .idle, memo := false, handle := none, timer := none }
        else { l with timer := none }) ∧
      t.origin.raises = (s.origin.raises.filter (fun x => x.state == .queued)).map
        (fun x => { x with timer := none }) ∧
      t.port.completions = s.port.completions ++
        s.claim.grants.filterMap (fun g => match g.state with
          | .unread => none
          | .inService => some (.grantLostDeparted g.handle)
          | .finishing => some (.finishLate g.handle)) ++
        (s.origin.raises.filter (fun x => x.state != .queued)).map (fun x => .raiseDiscarded x.id) ++
        (if leaves then [.leaveLeft] else []) ∧
      (leaves → t.control.state = .offline) ∧
      (¬ leaves → t.control.state = .listen ∧ t.control.quiet = none ∧
        t.control.backoff = some ((s.number.val + 1) * 100, .listen)) ∧
      t.control.cause = (if s.control.state = .departing then none else s.control.cause) := by
  intro t
  obtain ⟨-, hrecord, htk, hto, htc, -, hagenda, -⟩ := attemptEnds_blocks s a c
  have hport := attemptEnds_port_of_none (s := s) (a := a) (c := c) (by rw [hmade]; exact (goesAway_blocks _ u).1)
  rw [hmade] at hrecord hto htk htc hagenda hport
  exact goneAway leaves horigin hclaim hcontrol hnumber hcompletions hrecord hto htc htk (by rw [show t.port = _ from hport])
    (by rw [show t.agenda = _ from hagenda])

/-- A judgement by which the station departs, with its fault posted before it goes away. -/
theorem attemptMade_ownDeparture {s : State} {a : Attempt} {c : Instr} {r : Record} {cause : DepartureCause}
    (hs : s.judging) (hr : s.record = some r) (hown : (judgementOf s a c r).own = some cause)
    (hleft : cause = .left → s.control.state = .leaving) :
    ∃ u, (u.origin = s.origin ∧ u.claim = s.claim ∧ u.control = s.control ∧ u.number = s.number ∧
        u.port.completions = s.port.completions) ∧
      attemptMade a c s = goesAway (s.control.state == .leaving) u ∧
      (cause ≠ .left → Reported u {
        kind := .evicted, stamp := s.port.clock, station := some s.number, slot := none, line := none
        seq := some (judgementOf s a c r).record.seq, cause := none }) := by
  rw [judgementOf_eq] at hown ⊢
  generalize hj : judge s.number (seenOf s.number (ended a c)) r = j at hown
  generalize hw : judgementPosted j (attemptPast (ended a c) s) = w
  have hmade : attemptMade a c s = ownDeparture cause w := by
    rw [attemptMade_of_judging hs hr]
    refine (memberJudges_of_own (s := attemptPast (ended a c) s) (cause := cause) ?_).trans ?_
    · rw [← hown, ← hj]
      rfl
    · rw [← hw, ← hj]
      rfl
  have hb := Booked.postDepartures j.departures ((attemptPast (ended a c) s).setRecord (some j.record))
  obtain ⟨hnumber, -, hrecord, -, hcontrol, horigin, hclaim, -⟩ :=
    postDepartures_frame j.departures ((attemptPast (ended a c) s).setRecord (some j.record))
  have hcompletions := postDepartures_completions j.departures ((attemptPast (ended a c) s).setRecord (some j.record))
  have hclock := hb.reacts.host.clock
  rw [show postDepartures j.departures ((attemptPast (ended a c) s).setRecord (some j.record)) = w from hw]
    at hnumber hrecord hcontrol horigin hclaim hcompletions hclock
  rw [ownDeparture_eq (by rw [hcontrol]; exact hleft), hcontrol] at hmade
  refine ⟨_, ?_, hmade, fun hne => ?_⟩
  · split
    · exact ⟨horigin, hclaim, hcontrol, hnumber, hcompletions⟩
    · obtain ⟨pn, -, -, -, pk, po, pc, -⟩ := postFault_frame .evicted (some w.number) none none none w
      exact ⟨po.trans horigin, pc.trans hclaim, pk.trans hcontrol, pn.trans hnumber,
        (postFault_completions _ _ _ _ _ w).trans hcompletions⟩
  · rw [if_neg hne]
    have hpost := (Posts.postFault .evicted (some w.number) none none none w).reported (List.mem_singleton.mpr rfl)
    have hfault : faultOf .evicted (some w.number) none none none w = {
        kind := .evicted, stamp := s.port.clock, station := some s.number, slot := none, line := none
        seq := some j.record.seq, cause := none } := by
      unfold faultOf
      rw [hclock, hrecord, hnumber]
      rfl
    rw [hfault] at hpost
    exact hpost

/-- A DEPARTING station whose ABSTAIN was not given keeps waiting (R41, R91). -/
theorem departing_waits {s : State} {a : Attempt} {c : Instr} {r : Record} (hr : s.record = some r)
    (hs : s.control.state = .departing)
    (hnot : ¬(a.stateAtClose = .departing ∧ s.number.val / 4 < (responsesOf a c).length)) :
    let t := attemptEnds (responsesOf a c) a s
    t.record = some r ∧ t.claim = s.claim ∧ t.origin = s.origin ∧
        t.control = { s.control with wait := some (s.port.store.ti * 250) } ∧
        t.port = { s.port with faults := t.port.faults, overflow := t.port.overflow } ∧
        t.agenda = { s.agenda with
          purposes := s.agenda.purposes.filter (fun p =>
            !(a.driven.isSome && s.agenda.sent.any (fun y => y.purpose.age == p.age)))
          sent := if a.driven.isSome then none else s.agenda.sent
          idle := some (s.port.store.ti * 250) } := by
  intro t
  obtain ⟨-, hrecord, hcontrol, horigin, hclaim, -, hagenda, hport⟩ := attemptEnds_blocks s a c
  generalize hu : (if a.driven.isSome then dropSent (attemptPast (ended a c) s) else attemptPast (ended a c) s) = u
  have hmade : attemptMade a c s = u.setControl { u.control with wait := some (idleInterval s) } := by
    unfold attemptMade attemptObserved
    rw [show (attemptPast (ended a c) s).control.state = _ from hs]
    change departingEnds _ _ = _
    unfold departingEnds
    rw [if_neg (by simpa [ended, ownWordStrobed, attemptPast] using hnot), ← hu]
    rfl
  have hkeep : u.record = s.record ∧ u.control = s.control ∧ u.origin = s.origin ∧ u.claim = s.claim ∧
      u.port = s.port ∧ u.agenda = { s.agenda with
        purposes := s.agenda.purposes.filter (fun p =>
          !(a.driven.isSome && s.agenda.sent.any (fun y => y.purpose.age == p.age)))
        idle := some (s.port.store.ti * 250) } := by
    rw [← hu]
    cases hd : a.driven.isSome
    · simp [attemptPast, restartIdle, idleInterval]
      exact .inl rfl
    · refine ⟨by simp [attemptPast], by simp [attemptPast], by simp [attemptPast], by simp [attemptPast],
        by simp [attemptPast], ?_⟩
      rw [if_pos rfl, dropSent_eq]
      simp only [Bool.true_and]
      rfl
  obtain ⟨h1, h2, h3, h4, h5, h6⟩ := hkeep
  refine ⟨?_, ?_, ?_, ?_, ?_, ?_⟩
  · rw [show t.record = _ from hrecord, hmade]
    exact h1.trans hr
  · rw [show t.claim = _ from hclaim, hmade]
    exact h4
  · rw [show t.origin = _ from horigin, hmade]
    exact h3
  · rw [show t.control = _ from hcontrol, hmade, State.setControl_control, h2]
    rfl
  · have hkept := postDuplicate_port (ownNumberSeen s.number (ended a c)) (attemptMade a c s)
    rw [← hport] at hkept
    refine hkept.trans ?_
    rw [hmade, State.setControl_port, h5]
  · rw [show t.agenda = _ from hagenda, hmade, State.setControl_agenda, h6]

/-- A station departs with its ABSTAIN given (R36, R113). -/
theorem attemptMade_departs {s : State} {a : Attempt} {c : Instr} (hs : s.control.state = .departing)
    (hgiven : a.stateAtClose = .departing ∧ s.number.val / 4 < (responsesOf a c).length) :
    attemptMade a c s = goesAway (decide (s.control.cause = some .leave)) (attemptPast (ended a c) s) := by
  unfold attemptMade attemptObserved
  rw [show (attemptPast (ended a c) s).control.state = _ from hs]
  change departingEnds _ _ = _
  unfold departingEnds
  rw [if_pos (by simpa [ended, ownWordStrobed, attemptPast] using hgiven)]
  change (match s.control.cause with
    | some .leave => leaveEnds (selfDeparts (attemptPast (ended a c) s))
    | some .desync | some .restart | none => listenWithBackoff (selfDeparts (attemptPast (ended a c) s))) = _
  rcases hcause : s.control.cause with - | - | - | - <;> rfl

/-- Settles O51: the station goes away after its ABSTAIN or its own judgement, and otherwise waits on. -/
theorem departureClearsTheStationsRecords : Obligations.DepartureClearsTheStationsRecords := by
  intro s a c r hend hr departs judged leaves
  refine ⟨fun hgone => ⟨attemptEnds (responsesOf a c) a s, hend.exec, ?_⟩, fun hs hnot =>
    ⟨attemptEnds (responsesOf a c) a s, hend.exec, departing_waits hr hs fun h => hnot ⟨hs, h⟩⟩⟩
  rcases hgone with ⟨hs, hgiven⟩ | ⟨cause, hjudging, hown, hleft⟩
  · have hdec : decide (s.control.cause = some .leave) = decide leaves := decide_eq_decide.mpr (by simp [leaves, hs])
    have hmade := attemptMade_departs hs hgiven
    rw [hdec] at hmade
    have hall := endedGone (s := s) (a := a) (c := c) (u := attemptPast (ended a c) s) leaves rfl rfl rfl rfl rfl hmade
    obtain ⟨h1, h2, h3, h4, h5, h6, h7, h8, h9⟩ := hall
    refine ⟨h1, h2, h3, h4, h5, h6, h7, h8, h9, fun cause hj => ?_⟩
    rcases hj.1 with h | h | h <;> rw [hs] at h <;> cases h
  · have hnotdeparting : s.control.state ≠ .departing := by rcases hjudging with h | h | h <;> simp [h]
    have hdec : (s.control.state == .leaving) = decide leaves := by
      rw [Bool.beq_eq_decide_eq]
      exact decide_eq_decide.mpr (by simp [leaves, hnotdeparting])
    obtain ⟨u, ⟨huo, huc, huk, hun, hup⟩, hmade, hreported⟩ := attemptMade_ownDeparture (a := a) (c := c) hjudging hr hown hleft
    rw [hdec] at hmade
    have hall := endedGone leaves huo huc huk hun hup hmade
    obtain ⟨h1, h2, h3, h4, h5, h6, h7, h8, h9⟩ := hall
    refine ⟨h1, h2, h3, h4, h5, h6, h7, h8, h9, fun cause' hj hne => ?_⟩
    obtain rfl : cause = cause' := Option.some.inj (hown.symm.trans hj.2.1)
    refine reported_congr ?_ (attemptEnds_port_of_gone h1)
    rw [hmade]
    exact (hreported hne).then_posts (goesAway_posts _ u)

end Sys2Proof.Proofs
end


section
/-! A judgement that leaves the station in the group, stage by stage, as the attempt's end carries it out (R61). -/

set_option Elab.async false

namespace Sys2Proof.Machine

/-- The attempt as it is handed to the group record unit at its end (R40). -/
def seenAs (s : State) (a : Attempt) (c : Instr) : Seen := seenOf s.number (ended a c)

/-- Whether the CLOSE that completes this joiner's snapshot took (R109). -/
def closedBy (s : State) (a : Attempt) (c : Instr) (r : Record) : Bool :=
  closesSnapshot s r (seenAs s a c) (judgementOf s a c r)

/-- Whether this joiner's snapshot is lost (R110). -/
def lostBy (s : State) (a : Attempt) (c : Instr) (r : Record) : Bool :=
  snapshotLost s r (judgementOf s a c r) (closedBy s a c r)

/-- The sent purpose that the attempt brings to L (R92). -/
def spentBy (s : State) (a : Attempt) (c : Instr) (r : Record) : Option Purpose :=
  judgementSpent (seenAs s a c) (judgementOf s a c r) s

/-- The blocks after their reactions to the report (R61). -/
def reactedTo (s : State) (a : Attempt) (c : Instr) (r : Record) : State :=
  judgementReacted (seenAs s a c) (judgementOf s a c r) (lostBy s a c r) (attemptPast (ended a c) s)

/-- The station in the state the judgement leads to (R58, R109 to R111). -/
def settledBy (s : State) (a : Attempt) (c : Instr) (r : Record) : State :=
  settleState (judgementOf s a c r).diverged (lostBy s a c r) ((spentBy s a c r).any (fun p => p.aim == .leave))
    (closedBy s a c r) (reactedTo s a c r)

section

variable {s : State} {a : Attempt} {c : Instr} {r : Record}

theorem attemptMade_stays (hs : s.judging) (hr : s.record = some r) (hown : (judgementOf s a c r).own = none) :
    attemptMade a c s = updateWant (updateDuty (settledBy s a c r)) := by
  have hj := judgementOf_eq s a c r
  rw [hj] at hown
  rw [attemptMade_of_judging hs hr, memberJudges_of_stays (s := attemptPast (ended a c) s) hown]
  unfold settledBy reactedTo lostBy spentBy closedBy
  rw [hj]
  rfl

/-- The copy holds as judged, and the membership controller as it was, before the station's own change of state. -/
theorem reactedTo_reacts (s : State) (a : Attempt) (c : Instr) (r : Record) :
    Reacts ((attemptPast (ended a c) s).setRecord (some (judgementOf s a c r).record)) (reactedTo s a c r) :=
  judgementReacted_reacts _ _ _ _

theorem reactedTo_control (s : State) (a : Attempt) (c : Instr) (r : Record) :
    (reactedTo s a c r).control = s.control := (reactedTo_reacts s a c r).control

theorem settledBy_state (s : State) (a : Attempt) (c : Instr) (r : Record) : (settledBy s a c r).control.state =
    if ((judgementOf s a c r).diverged || lostBy s a c r ||
        ((spentBy s a c r).any (fun p => p.aim == .leave) && s.control.state == .leaving)) = true then .departing
    else if (closedBy s a c r && s.control.state == .syncing) = true then .member else s.control.state := by
  unfold settledBy
  rw [settleState_state, reactedTo_control]

theorem updateDutyWant_frame (u : State) :
    (updateWant (updateDuty u)).number = u.number ∧ (updateWant (updateDuty u)).bus = u.bus ∧
      (updateWant (updateDuty u)).record = u.record ∧ (updateWant (updateDuty u)).control = u.control ∧
      (updateWant (updateDuty u)).origin = u.origin ∧ (updateWant (updateDuty u)).claim = u.claim ∧
      (updateWant (updateDuty u)).port = u.port := by simp

end

end Sys2Proof.Machine
end


section
/-! The grant records after a judgement, and their completions (R140, R141, R144, R145). -/

set_option Elab.async false

namespace Sys2Proof.Machine

/-- From s to t completions that all have a property were posted. -/
def CompletesOnly (P : Completion → Prop) (s t : State) : Prop :=
  ∃ cs, t.port.completions = s.port.completions ++ cs ∧ ∀ x ∈ cs, P x

namespace CompletesOnly

variable {s t u : State} {P : Completion → Prop}

theorem of_same (h : t.port.completions = s.port.completions) : CompletesOnly P s t := ⟨[], by simp [h], by simp⟩

theorem trans (h : CompletesOnly P s t) (k : CompletesOnly P t u) : CompletesOnly P s u := by
  obtain ⟨cs, hcs, hP⟩ := h
  obtain ⟨ds, hds, hQ⟩ := k
  exact ⟨cs ++ ds, by rw [hds, hcs, List.append_assoc], fun x hx => (List.mem_append.mp hx).elim (hP x) (hQ x)⟩

theorem foldl {α : Type} {f : State → α → State} (h : ∀ u a, CompletesOnly P u (f u a)) (l : List α) (s : State) :
    CompletesOnly P s (l.foldl f s) := by
  induction l generalizing s with
  | nil => exact of_same rfl
  | cons a l ih => exact (h s a).trans (ih (f s a))

end CompletesOnly

/-- The completions of raises that end with their entry (R132). -/
def raiseEnded (x : Completion) : Prop := ∃ id, x = .raiseServiced id ∨ x = .raiseDropped id

theorem originReacts_completes (sent : Option Sent) (s : State) (c : EntryChange) :
    CompletesOnly raiseEnded s (originReacts sent s c) := by
  have hport : ∀ {u : State}, u.port = s.port → CompletesOnly raiseEnded s u := fun h => .of_same (by rw [h])
  unfold originReacts
  dsimp only
  split
  · split
    · split
      · exact hport (by simp)
      · exact hport rfl
    · split
      · exact hport rfl
      · rename_i x _
        split
        · exact hport (by simp)
        · exact hport (by simp)
        · exact hport (by simp)
        · cases x with
          | line n => exact hport (by simp [sourceRetires])
          | raise id => exact ⟨[.raiseServiced id], rfl, by simp [raiseEnded]⟩
        · exact hport (by simp)
        · cases x with
          | line n => exact .of_same (postFault_completions _ _ _ _ _ _)
          | raise id => exact ⟨[.raiseDropped id], rfl, by simp [raiseEnded]⟩
        all_goals exact hport rfl
  · exact hport rfl

theorem postOwnPlace_completions (a b : Bool) (s : State) :
    (postOwnPlace a b s).port.completions = s.port.completions := by
  rw [postOwnPlace_cases]
  cases a <;> cases b <;> simp [postFault_completions]

theorem postRetryLimit_completions (p : Option Purpose) (s : State) :
    (postRetryLimit p s).port.completions = s.port.completions := by
  cases p
  · rfl
  · exact postFault_completions _ _ _ _ _ s

/-- The completions after the reactions to a report: those of the claims that ended, then those of raises. -/
theorem judgementReacted_completions (x : Seen) (j : Judgement) (lost : Bool) (s : State) : ∃ raised,
    (judgementReacted x j lost s).port.completions = s.port.completions ++
      (s.claim.grants.filter (fun g => !stillClaimed s.number j.record g)).filterMap (grantEnding j.changes) ++ raised ∧
    ∀ x ∈ raised, raiseEnded x := by
  have hcount : ∀ u : State, (if x.isSender then countSent j.took u else u).port = u.port ∧
      (if x.isSender then countSent j.took u else u).claim = u.claim ∧
      (if x.isSender then countSent j.took u else u).number = u.number := by
    intro u
    split <;> simp
  obtain ⟨hport, hclaim, hnumber⟩ := hcount (postOwnPlace j.diverged lost (judgementPosted j s))
  have hposted : (judgementPosted j s).claim = s.claim ∧ (judgementPosted j s).number = s.number := by
    simp [judgementPosted]
  have hplace := postOwnPlace_frame j.diverged lost (judgementPosted j s)
  obtain ⟨raised, hraised, hkinds⟩ := CompletesOnly.foldl
    (originReacts_completes (if x.isSender then s.agenda.sent else none)) j.changes
    (claimReacts x.isSender j.record j.changes
      (if x.isSender then countSent j.took (postOwnPlace j.diverged lost (judgementPosted j s))
        else postOwnPlace j.diverged lost (judgementPosted j s)))
  refine ⟨raised, ?_, hkinds⟩
  unfold judgementReacted
  dsimp only
  rw [(updateBeacon_frame _ _ _).2.2.2.2.2.2.1, postRetryLimit_completions, hraised]
  refine congrArg (· ++ raised) ?_
  unfold claimReacts
  rw [postCompletions_port, State.setClaim_port, hport, hclaim, hnumber, hplace.1, hplace.2.2.2.2.2.2.1, hposted.1,
    hposted.2, postOwnPlace_completions]
  unfold judgementPosted
  rw [postDepartures_completions]
  rfl

theorem settleState_completions (a b c d : Bool) (s : State) :
    (settleState a b c d s).port.completions = s.port.completions := by
  rcases settleState_cases s a b c d with ⟨-, k, heq, -⟩ | ⟨-, ⟨-, -, heq⟩ | ⟨-, heq⟩⟩ <;> rw [heq]
  · rw [(enterDeparting_frame k s).2.2.2.2.2.1]
  · rw [(changeState_frame .member s).2.2.2.1]

theorem finishedBy_iff {j : Judgement} {g : Grant} :
    finishedBy j.changes g = true ↔ ∃ ch ∈ changesOf j g.handle, ch.became = .removedByDone := by
  have hhandle : ∀ ch : EntryChange, ((⟨ch.entry.slot, ch.entry.tag⟩ : Handle) = g.handle) ↔
      ch.entry.slot = g.handle.slot ∧ ch.entry.tag = g.handle.tag := by
    intro ch
    obtain ⟨k, q⟩ := g.handle
    simp
  simp only [finishedBy, changesOf, List.any_eq_true, Bool.and_eq_true, beq_iff_eq, List.mem_filter, hhandle]
  exact ⟨fun ⟨ch, hmem, hb, hh⟩ => ⟨ch, ⟨hmem, hh⟩, hb⟩, fun ⟨ch, ⟨hmem, hh⟩, hb⟩ => ⟨ch, hmem, hb, hh⟩⟩

end Sys2Proof.Machine

namespace Sys2Proof.Proofs

open Sys2Proof.Machine

/-- Settles O57: the claim unit's reaction, which the later stages leave as it is. -/
theorem grantsFollowTheirClaims : Obligations.GrantsFollowTheirClaims := by
  intro s a c r hend hr hs ho j stays done ending hown
  obtain ⟨-, -, -, -, hclaim, -, -, hport⟩ := attemptEnds_blocks s a c
  have hmade := attemptMade_stays hs hr hown
  have hordered : j.record.Ordered := by
    have := judge_ordered ho s.number (seenAs s a c)
    rwa [show judge s.number (seenAs s a c) r = j from (judgementOf_eq s a c r).symm] at this
  have hstays : ∀ g, decide (stays g) = stillClaimed s.number j.record g := fun g => by
    rw [Bool.eq_iff_iff, decide_eq_true_iff]
    exact (stillClaimed_iff hordered).symm
  obtain ⟨-, -, -, -, -, hduty, hdutyport⟩ := updateDutyWant_frame (settledBy s a c r)
  have hsettled := settleState_frame j.diverged (lostBy s a c r) ((spentBy s a c r).any (fun p => p.aim == .leave))
    (closedBy s a c r) (reactedTo s a c r)
  have htclaim : (attemptEnds (responsesOf a c) a s).claim = (reactedTo s a c r).claim := by
    rw [hclaim, hmade, hduty]
    exact hsettled.2.2.2
  have hreacted := judgementReacted_claim (seenAs s a c) j (lostBy s a c r) (attemptPast (ended a c) s)
  change (reactedTo s a c r).claim = _ at hreacted
  obtain ⟨raised, hraised, hkinds⟩ :=
    judgementReacted_completions (seenAs s a c) j (lostBy s a c r) (attemptPast (ended a c) s)
  have hcompletions : (attemptEnds (responsesOf a c) a s).port.completions = (reactedTo s a c r).port.completions := by
    rw [hport, postDuplicate_port, hmade, hdutyport]
    exact settleState_completions _ _ _ _ _
  refine ⟨attemptEnds (responsesOf a c) a s, raised, hend.exec, ?_, ?_, ?_, ?_, hkinds⟩
  · rw [htclaim, hreacted]
    rfl
  · rw [htclaim, hreacted]
    rfl
  · rw [htclaim, hreacted]
    simp only [hstays]
    rfl
  · rw [hcompletions]
    refine hraised.trans ?_
    simp only [hstays]
    refine congrArg (fun l => s.port.completions ++ l ++ raised) (congrArg (fun f => List.filterMap f _) (funext fun g => ?_))
    have hdone : decide (done g) = finishedBy j.changes g := by
      rw [Bool.eq_iff_iff, decide_eq_true_iff]
      exact finishedBy_iff.symm
    unfold grantEnding
    simp only [ending, hdone]
    cases g.state <;> cases finishedBy j.changes g <;> rfl

end Sys2Proof.Proofs
end


section
/-! Where a judgement that leaves the station in the group takes it (R58, R109, R110, R111, R118). -/

set_option Elab.async false

namespace Sys2Proof.Machine

section

variable {s : State} {a : Attempt} {c : Instr} {r : Record}

theorem closedBy_iff : closedBy s a c r = true ↔ (judgementOf s a c r).applied = true ∧ JoinsIn s.number r ∧
    ∃ f count, frameOf a = some f ∧ f.body = .close count := by
  have hclose : (frameOf a).any (fun f => match f.body with | .close _ => true | _ => false) = true ↔
      ∃ f count, frameOf a = some f ∧ f.body = .close count := by
    rw [Option.any_eq_true]
    constructor
    · rintro ⟨f, hf, hb⟩
      split at hb
      · rename_i count hbody
        exact ⟨f, count, hf, hbody⟩
      · cases hb
    · rintro ⟨f, count, hf, hb⟩
      exact ⟨f, hf, by rw [hb]⟩
  unfold closedBy closesSnapshot seenAs
  rw [frameOf_eq_seen, Bool.and_eq_true, Bool.and_eq_true, joinsIn_iff, and_assoc]
  exact and_congr Iff.rfl (and_congr Iff.rfl hclose)

theorem lostBy_iff : lostBy s a c r = true ↔
    (s.control.state = .syncing ∨ s.control.state = .leaving ∧ JoinsIn s.number r) ∧
      ¬JoinsIn s.number (judgementOf s a c r).record ∧ ¬closedBy s a c r = true := by
  unfold lostBy snapshotLost
  simp only [Bool.and_eq_true, Bool.or_eq_true, Bool.not_eq_true', beq_iff_eq, joinsIn_iff, Bool.not_eq_true, and_assoc]

/-- The sent purpose is brought to L where it is held with that many failures (R92). -/
theorem exhausted_any (h : AgendaSound s) {which : Aim → Bool} (hnull : which .departureNull = false) :
    (exhausted s).any (fun p => which p.aim) = true ↔
      ∃ q ∈ s.agenda.purposes, s.agenda.sent.map (fun x => x.purpose.age) = some q.age ∧ which q.aim = true ∧
        s.port.store.l ≤ q.count + 1 := by
  have hheld : ∀ q, sentHeld s = some q ↔
      q ∈ s.agenda.purposes ∧ s.agenda.sent.map (fun x => x.purpose.age) = some q.age := by
    intro q
    unfold sentHeld
    cases hx : s.agenda.sent with
    | none => simp
    | some x =>
      rw [Option.bind_some, Option.map_some, Option.some_inj]
      constructor
      · intro hf
        exact ⟨List.mem_of_find?_eq_some hf, (beq_iff_eq.mp (show (q.age == x.purpose.age) = true from List.find?_some (p := fun p : Purpose => p.age == x.purpose.age) hf)).symm⟩
      · rintro ⟨hq, hage⟩
        cases hf : s.agenda.purposes.find? (fun p => p.age == x.purpose.age) with
        | none => exact absurd (List.find?_eq_none.mp hf q hq) (by simp [hage])
        | some p =>
          have hp : p.age = x.purpose.age := beq_iff_eq.mp (show (p.age == x.purpose.age) = true from List.find?_some (p := fun p : Purpose => p.age == x.purpose.age) hf)
          rw [purpose_eq_of_age h (List.mem_of_find?_eq_some hf) hq (hp.trans hage)]
  unfold exhausted
  rw [Option.any_eq_true]
  constructor
  · rintro ⟨q, hq, hw⟩
    obtain ⟨hq, hcond⟩ := Option.filter_eq_some_iff.mp hq
    obtain ⟨hmem, hage⟩ := (hheld q).mp hq
    rw [Bool.and_eq_true, decide_eq_true_iff] at hcond
    exact ⟨q, hmem, hage, hw, hcond.1⟩
  · rintro ⟨q, hmem, hage, hw, hl⟩
    refine ⟨q, Option.filter_eq_some_iff.mpr ⟨(hheld q).mpr ⟨hmem, hage⟩, ?_⟩, hw⟩
    rw [Bool.and_eq_true, decide_eq_true_iff, bne_iff_ne]
    refine ⟨hl, fun he => ?_⟩
    rw [he, hnull] at hw
    exact Bool.false_ne_true hw

theorem spentBy_leave (h : AgendaSound s) :
    ((spentBy s a c r).any (fun p => p.aim == .leave) && s.control.state == .leaving) = true ↔
      s.control.state = .leaving ∧ a.driven.isSome ∧ (judgementOf s a c r).took = false ∧ ∃ q ∈ s.agenda.purposes,
        s.agenda.sent.map (fun x => x.purpose.age) = some q.age ∧ q.aim = .leave ∧ s.port.store.l ≤ q.count + 1 := by
  have hsender : (seenAs s a c).isSender = a.driven.isSome := rfl
  have hex := exhausted_any h (which := fun x => x == .leave) rfl
  simp only [beq_iff_eq] at hex
  unfold spentBy judgementSpent
  rw [hsender, Bool.and_eq_true, beq_iff_eq, and_comm]
  refine and_congr Iff.rfl ?_
  by_cases hd : a.driven.isSome = true <;> cases ht : (judgementOf s a c r).took <;> simp [hd, hex]

end

/-- A judgement that takes the station out of the group's work (R58, R110, R111). -/
theorem settleState_departs {s : State} {a b c : Bool} (d : Bool)
    (h : (a || b || (c && s.control.state == .leaving)) = true) : settleState a b c d s =
      enterDeparting (if s.control.state = .leaving then .leave else if a = true then .desync else .restart) s := by
  unfold settleState
  by_cases hl : s.control.state = .leaving <;> cases a <;> cases b <;> simp_all

theorem settleState_member {s : State} {a b c d : Bool} (h : (a || b || (c && s.control.state == .leaving)) = false)
    (hd : d = true) (hs : s.control.state = .syncing) : settleState a b c d s = changeState .member s := by
  unfold settleState
  simp_all

theorem settleState_stays {s : State} {a b c d : Bool} (h : (a || b || (c && s.control.state == .leaving)) = false)
    (hd : (d && s.control.state == .syncing) = false) : settleState a b c d s = s := by
  obtain ⟨hab, hc⟩ := Bool.or_eq_false_iff.mp h
  obtain ⟨rfl, rfl⟩ := Bool.or_eq_false_iff.mp hab
  unfold settleState
  dsimp only
  rw [hc, hd, if_neg Bool.false_ne_true, if_neg Bool.false_ne_true, if_neg Bool.false_ne_true, if_neg Bool.false_ne_true]

/-- In DEPARTING neither the respondent duty nor a CLAIM is taken in. -/
theorem updateDutyWant_departing {s : State} (hs : s.control.state = .departing) (h : s.agenda.purposes = []) :
    (updateWant (updateDuty s)).agenda.purposes = [] := by
  have hduty : (updateDuty s).agenda.purposes = [] := by
    unfold updateDuty
    split
    · rcases addPurpose_cases .duty s with ⟨htakes, -⟩ | ⟨-, heq⟩
      · rw [hs] at htakes
        cases htakes
      · rw [heq, h]
    · simp [dropPurposes, h]
  have hwants : wantsToClaim (updateDuty s) = false := by
    unfold wantsToClaim
    rw [show (updateDuty s).control = s.control by simp, hs]
    rfl
  unfold updateWant
  rw [hwants, if_neg Bool.false_ne_true]
  simp [dropPurposes, hduty]

/-- A station that holds no handle and sent no OFFER has no record a report concerns. -/
theorem originReacts_idle {sent : Option Sent} {s : State} (hlines : ∀ n : Line, s.origin.lines[n].handle = none)
    (hraises : ∀ x ∈ s.origin.raises, x.handle = none)
    (hsent : ∀ y, sent = some y → ∀ z prio, y.purpose.aim ≠ .offer z prio) (c : EntryChange) :
    originReacts sent s c = s := by
  have hholder : ∀ h, holderOf s h = none := by
    intro h
    unfold holderOf
    have hl : (List.finRange 16).find? (fun n => s.origin.lines[n].handle == some h) = none := by
      rw [List.find?_eq_none]
      intro n _
      rw [hlines n]
      exact Bool.false_ne_true
    have hr : s.origin.raises.find? (fun r => r.handle == some h) = none := by
      rw [List.find?_eq_none]
      intro x hx
      simp [hraises x hx]
    rw [hl, hr]
    rfl
  unfold originReacts
  dsimp only
  split
  · split
    · split
      · exact absurd rfl (hsent _ rfl _ _)
      · rfl
    · rw [hholder]
  · rfl

theorem reactedTo_origin_idle {s : State} {a : Attempt} {c : Instr} {r : Record}
    (hlines : ∀ n : Line, s.origin.lines[n].handle = none) (hraises : ∀ x ∈ s.origin.raises, x.handle = none)
    (hsent : ∀ y, s.agenda.sent = some y → ∀ z prio, y.purpose.aim ≠ .offer z prio) :
    (reactedTo s a c r).origin = s.origin := by
  have hfold : ∀ (cs : List EntryChange) (sent : Option Sent) (u : State),
      (∀ y, sent = some y → ∀ z prio, y.purpose.aim ≠ .offer z prio) → u.origin = s.origin →
      cs.foldl (originReacts sent) u = u := by
    intro cs sent u hy hu
    induction cs with
    | nil => rfl
    | cons x xs ih =>
      rw [List.foldl_cons, originReacts_idle (by rw [hu]; exact hlines) (by rw [hu]; exact hraises) hy]
      exact ih
  have hclaim : (claimReacts (seenAs s a c).isSender (judgementOf s a c r).record (judgementOf s a c r).changes
      (if (seenAs s a c).isSender then countSent (judgementOf s a c r).took (postOwnPlace (judgementOf s a c r).diverged
        (lostBy s a c r) (judgementPosted (judgementOf s a c r) (attemptPast (ended a c) s)))
      else postOwnPlace (judgementOf s a c r).diverged (lostBy s a c r)
        (judgementPosted (judgementOf s a c r) (attemptPast (ended a c) s)))).origin = s.origin := by
    rw [(claimReacts_frame _ _ _ _).2.2.2.2.2.1]
    split <;> simp [judgementPosted, attemptPast]
  unfold reactedTo judgementReacted
  dsimp only
  rw [hfold _ _ _ ?_ hclaim]
  · rw [(updateBeacon_frame _ _ _).2.2.2.2.1, (postRetryLimit_frame _ _).2.2.2.2.2.1]
    exact hclaim
  · intro y hy
    split at hy
    · exact hsent y hy
    · cases hy

section

variable {s : State} {a : Attempt} {c : Instr} {r : Record}

/-- What is reported when the blocks have reacted is reported at the end of the attempt. -/
theorem reported_of_reactedTo (hs : s.judging) (hr : s.record = some r) (hown : (judgementOf s a c r).own = none)
    {f : FaultRecord} (h : Reported (reactedTo s a c r) f) : Reported (attemptEnds (responsesOf a c) a s) f := by
  obtain ⟨-, -, -, -, -, -, -, hport⟩ := attemptEnds_blocks s a c
  have hsettled : Reported (attemptMade a c s) f := by
    rw [attemptMade_stays hs hr hown]
    exact (h.then_posts (settleState_posts _ _ _ _ _)).then_posts (updateDutyWant_posts _)
  exact (hsettled.then_posts (postDuplicate_posts _ _)).then_posts (.none_of_port hport)

/-- The faults about the station's own place (R58, R110). -/
theorem placeFault_reported (hs : s.judging) (hr : s.record = some r) (hown : (judgementOf s a c r).own = none)
    {k : FaultKind} (hk : (judgementOf s a c r).diverged = true ∧ k = .desync ∨ lostBy s a c r = true ∧ k = .joinTimeout) :
    Reported (attemptEnds (responsesOf a c) a s) {
      kind := k, stamp := s.port.clock, station := none, slot := none, line := none
      seq := some (judgementOf s a c r).record.seq, cause := none } := by
  obtain ⟨fs, hfs, -⟩ :=
    judgementReacted_posts (seenAs s a c) (judgementOf s a c r) (lostBy s a c r) (attemptPast (ended a c) s)
  refine reported_of_reactedTo hs hr hown (hfs.reported (List.mem_append_left _ ?_))
  have hclock : (judgementPosted (judgementOf s a c r) (attemptPast (ended a c) s)).port.clock = s.port.clock :=
    ((SameHostSide.postDepartures (s := (attemptPast (ended a c) s).setRecord (some (judgementOf s a c r).record)) _).mpr
      (.refl _)).clock
  have hrecord : (judgementPosted (judgementOf s a c r) (attemptPast (ended a c) s)).record =
      some (judgementOf s a c r).record := by simp [judgementPosted]
  unfold placeFaults faultOf
  rw [hclock, hrecord]
  rcases hk with ⟨hdiverged, rfl⟩ | ⟨hlost, rfl⟩
  · simp [hdiverged]
  · simp [hlost]

/-- The station in DEPARTING as a judgement leaves it (R58, R110, R111, R113). -/
theorem attemptMade_toDeparting (hs : s.judging) (hr : s.record = some r) (hown : (judgementOf s a c r).own = none)
    (hgone : ((judgementOf s a c r).diverged || lostBy s a c r || ((spentBy s a c r).any (fun p => p.aim == .leave) &&
      (reactedTo s a c r).control.state == .leaving)) = true) :
    let u := attemptMade a c s
    u.control = { leftControl s.control with
        state := .departing, wait := some (s.port.store.ti * 250)
        cause := some (if s.control.state = .leaving then .leave
          else if (judgementOf s a c r).diverged = true then .desync else .restart) } ∧
      u.agenda.purposes = [] ∧ u.origin = (stopServiceTimers (reactedTo s a c r)).origin := by
  have hsettled : settledBy s a c r = enterDeparting (if s.control.state = .leaving then .leave
      else if (judgementOf s a c r).diverged = true then .desync else .restart) (reactedTo s a c r) := by
    rw [← reactedTo_control s a c r]
    exact settleState_departs _ hgone
  obtain ⟨-, -, -, hcontrol, horigin, -, -⟩ := updateDutyWant_frame (settledBy s a c r)
  have hti : idleInterval (reactedTo s a c r) = s.port.store.ti * 250 := by
    unfold idleInterval
    rw [(reactedTo_reacts s a c r).host.store]
    rfl
  intro u
  rw [show u = _ from attemptMade_stays hs hr hown, hcontrol, horigin, hsettled, enterDeparting_control, reactedTo_control,
    hti]
  refine ⟨rfl, updateDutyWant_departing ?_ ?_, (enterDeparting_frame _ _).2.2.2.2.2.2.1⟩
  · rw [enterDeparting_control]
  · rw [(enterDeparting_frame _ _).2.2.2.1]

end

end Sys2Proof.Machine

namespace Sys2Proof.Proofs

open Sys2Proof.Machine

section

variable {s : State} {a : Attempt} {c : Instr} {r : Record}

/-- A station whose snapshot is complete offers what waited on its entry to MEMBER (R109, R118). -/
theorem snapshotClosed_offers (hp : Placed s) (hsound : AgendaSound s) (hs : s.control.state = .syncing)
    (hr : s.record = some r) (hown : (judgementOf s a c r).own = none)
    (hsettled : settledBy s a c r = changeState .member (reactedTo s a c r)) (haccounts : AccountsSound s)
    (hlines : ∀ n : Line, s.origin.lines[n].handle = none) (hraises : ∀ x ∈ s.origin.raises, x.handle = none)
    (hsent : ∀ y, s.agenda.sent = some y → ∀ z prio, y.purpose.aim ≠ .offer z prio) :
    OffersWhatWaited s (attemptEnds (responsesOf a c) a s) := by
  obtain ⟨-, -, -, horigin, -, -, hagenda, -⟩ := attemptEnds_blocks s a c
  have hmade := attemptMade_stays (.inl hs) hr hown
  rw [hsettled] at hmade
  have hreacts := reactedTo_reacts s a c r
  have hfit : PurposesFit (reactedTo s a c r) := hreacts.fit hp.purposes
  have hstate : (reactedTo s a c r).control.state = .syncing := by rw [reactedTo_control, hs]
  have hheld : offersHeld (attemptEnds (responsesOf a c) a s) = offersHeld (changeState .member (reactedTo s a c r)) := by
    refine (offersHeld_congr (s := attemptMade a c s) (by rw [hagenda])).trans ?_
    rw [hmade, offersHeld_updateWant, offersHeld_updateDuty]
  have hmadeSound : AgendaSound (attemptMade a c s) := by
    rw [hmade]
    exact ((Reacts.updateDuty _).trans (.updateWant _)).sound
      (agendaSound_changeState .member (hreacts.sound (agendaSound_of_same hsound rfl rfl rfl)))
  have hstore : (attemptEnds (responsesOf a c) a s).port.store = (attemptMade a c s).port.store := by
    rw [((SameHostSide.attemptEnds (s := s) _ _).mpr (.refl s)).store, (attemptMade_host a c s).store]
  refine offersWhatWaited_of_member (u := reactedTo s a c r) (reactedTo_origin_idle hlines hraises hsent)
    haccounts.2.2.2.2 ?_ ?_ hheld (agendaSound_of_same hmadeSound (by rw [hagenda]) (by rw [hagenda]) (by rw [hstore]))
  · have hkept : (leaveState (reactedTo s a c r)).agenda.purposes = (reactedTo s a c r).agenda.purposes := by
      unfold leaveState
      rw [hstate]
    unfold offersHeld
    rw [hkept, List.filter_eq_nil_iff]
    intro x hx
    obtain ⟨p, hmem, rfl⟩ := List.mem_map.mp hx
    have hpfit := hfit p hmem
    rw [hstate] at hpfit
    rcases (by simpa [aimFits] using hpfit : p.aim = .leave ∨ p.aim = .beacon) with haim | haim <;> rw [haim] <;>
      exact Bool.false_ne_true
  · rw [horigin, hmade]
    exact (updateDutyWant_frame _).2.2.2.2.1

/-- Settles O52: the branches of the settling, with what each of them does to the blocks. -/
theorem judgementMovesTheStation : Obligations.JudgementMovesTheStation := by
  intro s a c r hend hr hs hplace hsound j leaving closed lost spent fault hown
  obtain ⟨-, hrecord, hcontrol, horigin, -, -, hagenda, -⟩ := attemptEnds_blocks s a c
  have hclosed : closedBy s a c r = true ↔ closed := closedBy_iff
  have hlost : lostBy s a c r = true ↔ lost := by
    rw [lostBy_iff, hclosed]
  have hspent : ((spentBy s a c r).any (fun p => p.aim == .leave) && s.control.state == .leaving) = true ↔ spent :=
    spentBy_leave hsound
  have hgone : (j.diverged || lostBy s a c r || ((spentBy s a c r).any (fun p => p.aim == .leave) &&
      (reactedTo s a c r).control.state == .leaving)) = true ↔ j.diverged = true ∨ lost ∨ spent := by
    rw [reactedTo_control, Bool.or_eq_true, Bool.or_eq_true, hlost, hspent, or_assoc]
  have hstays : j.diverged = false → ¬lost → ¬spent → (j.diverged || lostBy s a c r ||
      ((spentBy s a c r).any (fun p => p.aim == .leave) && (reactedTo s a c r).control.state == .leaving)) = false := by
    intro hd hl hsp
    rw [Bool.eq_false_iff, Ne, hgone]
    simp [hd, hl, hsp]
  have hmade := attemptMade_stays hs hr hown
  refine ⟨attemptEnds (responsesOf a c) a s, hend.exec, ?_, fun h => ?_, fun h => ?_, fun h => ?_,
    fun hd hl hsp hsync hcl => ?_, fun hd hl hsp hor => ?_⟩
  · rw [hrecord, hmade, (updateDutyWant_frame _).2.2.1]
    exact (settleState_frame _ _ _ _ _).2.2.1.trans (reactedTo_reacts s a c r).record
  · obtain ⟨hc, hpurposes, ho⟩ := attemptMade_toDeparting hs hr hown (hgone.mpr h)
    rw [hcontrol, hc, hagenda, horigin, ho]
    refine ⟨rfl, rfl, hpurposes, ?_, fun n => ?_, fun x hx => ?_⟩
    · by_cases hl : s.control.state = .leaving
      · simp [leaving, hl]
      · by_cases hd : j.diverged = true <;> simp [leaving, hl, hd, j] at *
    · simp [stopServiceTimers]
    · obtain ⟨y, -, rfl⟩ := List.mem_map.mp hx
      rfl
  · exact placeFault_reported hs hr hown (.inl ⟨h, rfl⟩)
  · exact placeFault_reported hs hr hown (.inr ⟨hlost.mpr h, rfl⟩)
  · have hsettled := settleState_member (hstays hd hl hsp) (hclosed.mpr hcl)
      (show (reactedTo s a c r).control.state = .syncing by rw [reactedTo_control, hsync])
    refine ⟨?_, snapshotClosed_offers (placeSound_iff.mp hplace) hsound hsync hr hown hsettled⟩
    rw [hcontrol, hmade, (updateDutyWant_frame _).2.2.2.1, show settledBy s a c r = _ from hsettled, changeState_state]
  · have hnot : (closedBy s a c r && (reactedTo s a c r).control.state == .syncing) = false := by
      rw [reactedTo_control, Bool.and_eq_false_iff]
      rcases hor with hne | hncl
      · exact .inr (beq_eq_false_iff_ne.mpr hne)
      · exact .inl (Bool.eq_false_iff.mpr fun ht => hncl (hclosed.mp ht))
    rw [hcontrol, hmade, (updateDutyWant_frame _).2.2.2.1,
      show settledBy s a c r = _ from settleState_stays (hstays hd hl hsp) hnot, reactedTo_control]

end

end Sys2Proof.Proofs
end


section
/-! What enters the agenda and what leaves it as the blocks react to a report (R61, R84, R85). -/

set_option Elab.async false

namespace Sys2Proof.Machine

/-- From s to t only purposes of `drops` left the agenda, and only new purposes of `adds` came into it. -/
structure Edits (drops adds : Aim → Bool) (s t : State) : Prop where
  kept : ∀ p ∈ s.agenda.purposes, drops p.aim = false → p ∈ t.agenda.purposes
  came : ∀ p ∈ t.agenda.purposes, p ∈ s.agenda.purposes ∨ s.agenda.nextAge ≤ p.age ∧ adds p.aim = true
  ages : s.agenda.nextAge ≤ t.agenda.nextAge

/-- No aim at all. -/
def noAim : Aim → Bool := fun _ => false

/-- The purposes that the origin unit adds for a source: its OFFER, and the WITHDRAW of its entry. -/
def Aim.comesFrom (x : Source) (h : Handle) : Aim → Bool
  | .offer y _ => y == x
  | .withdraw g n => g == h && x == .line n
  | _ => false

namespace Edits

variable {drops adds : Aim → Bool} {s t u : State}

theorem of_agenda (h : t.agenda.purposes = s.agenda.purposes) (ha : t.agenda.nextAge = s.agenda.nextAge) :
    Edits drops adds s t :=
  ⟨fun p hp _ => by rw [h]; exact hp, fun p hp => .inl (by rw [← h]; exact hp), by rw [ha]⟩

theorem refl (s : State) : Edits drops adds s s := of_agenda rfl rfl

theorem trans (h : Edits drops adds s t) (k : Edits drops adds t u) : Edits drops adds s u where
  kept p hp hd := k.kept p (h.kept p hp hd) hd
  came p hp := by
    rcases k.came p hp with hin | ⟨hage, hadds⟩
    · exact h.came p hin
    · exact .inr ⟨h.ages.trans hage, hadds⟩
  ages := h.ages.trans k.ages

theorem mono {drops' adds' : Aim → Bool} (h : Edits drops adds s t) (hd : ∀ a, drops a = true → drops' a = true)
    (ha : ∀ a, adds a = true → adds' a = true) : Edits drops' adds' s t where
  kept p hp hnot := h.kept p hp (Bool.eq_false_iff.mpr fun hdrops => Bool.eq_false_iff.mp hnot (hd _ hdrops))
  came p hp := (h.came p hp).imp_right fun ⟨hage, hadds⟩ => ⟨hage, ha _ hadds⟩
  ages := h.ages

theorem foldl {α : Type} {f : State → α → State} {l : List α} (h : ∀ u, ∀ a ∈ l, Edits drops adds u (f u a)) :
    Edits drops adds s (l.foldl f s) := by
  induction l generalizing s with
  | nil => exact refl s
  | cons a l ih =>
    exact (h s a List.mem_cons_self).trans (ih fun u b hb => h u b (List.mem_cons_of_mem a hb))

/-- What is held and never dropped stays held. -/
theorem keeps_held (h : Edits drops adds s t) {which : Aim → Bool} (hd : ∀ a, which a = true → drops a = false)
    (hheld : holdsAim which s = true) : holdsAim which t = true := by
  obtain ⟨p, hp, hw⟩ := List.any_eq_true.mp hheld
  exact List.any_eq_true.mpr ⟨p, h.kept p hp (hd _ hw), hw⟩

/-- What is not held and never added stays absent. -/
theorem keeps_absent (h : Edits drops adds s t) {which : Aim → Bool} (ha : ∀ a, which a = true → adds a = false)
    (hheld : holdsAim which s = false) : holdsAim which t = false := by
  refine List.any_eq_false.mpr fun p hp hw => ?_
  rcases h.came p hp with hin | ⟨-, hadds⟩
  · exact List.any_eq_false.mp hheld p hin hw
  · exact Bool.eq_false_iff.mp (ha _ hw) hadds

theorem holds_eq (h : Edits drops adds s t) {which : Aim → Bool} (hd : ∀ a, which a = true → drops a = false)
    (ha : ∀ a, which a = true → adds a = false) : holdsAim which t = holdsAim which s := by
  cases hheld : holdsAim which s
  · exact h.keeps_absent ha hheld
  · exact h.keeps_held hd hheld

/-! ### The operations -/

theorem addPurpose {a : Aim} (ha : adds a = true) (s : State) : Edits drops adds s (addPurpose a s) := by
  rcases addPurpose_cases a s with ⟨-, -, heq⟩ | ⟨-, heq⟩ <;> rw [heq]
  · refine ⟨fun p hp _ => List.mem_append_left _ hp, fun p hp => ?_, Nat.le_succ _⟩
    rcases List.mem_append.mp hp with hp | hp
    · exact .inl hp
    · obtain rfl := List.mem_singleton.mp hp
      exact .inr ⟨Nat.le_refl _, ha⟩
  · exact refl s

theorem dropPurposes {which : Aim → Bool} (h : ∀ a, which a = true → drops a = true) (s : State) :
    Edits drops adds s (dropPurposes which s) :=
  ⟨fun _ hp hd => mem_dropPurposes.mpr ⟨hp, Bool.eq_false_iff.mpr fun hw => Bool.eq_false_iff.mp hd (h _ hw)⟩,
    fun _ hp => .inl (mem_dropPurposes.mp hp).1, Nat.le_refl _⟩

theorem updateDuty (hd : drops .duty = true) (ha : adds .duty = true) (s : State) :
    Edits drops adds s (updateDuty s) := by
  unfold Machine.updateDuty
  split
  · exact addPurpose ha s
  · exact dropPurposes (fun a h => by rw [beq_iff_eq.mp h]; exact hd) s

theorem updateWant (hd : drops .claim = true) (ha : adds .claim = true) (s : State) :
    Edits drops adds s (updateWant s) := by
  unfold Machine.updateWant
  split
  · exact addPurpose ha s
  · exact dropPurposes (fun a h => by rw [beq_iff_eq.mp h]; exact hd) s

theorem lineWants {n : Line} (ha : ∀ p, adds (.offer (.line n) p) = true) (s : State) :
    Edits drops adds s (lineWants n s) :=
  (of_agenda (t := changeLine n _ s) (by simp) (by simp)).trans (addPurpose (ha _) _)

theorem evaluateLine {n : Line} (ha : ∀ p, adds (.offer (.line n) p) = true) (s : State) :
    Edits drops adds s (evaluateLine n s) := by
  unfold Machine.evaluateLine
  split
  · exact lineWants ha s
  · exact refl s

theorem checkWithdraw {n : Line} {s : State} (ha : ∀ h, s.origin.lines[n].handle = some h → adds (.withdraw h n) = true) :
    Edits drops adds s (checkWithdraw n s) := by
  unfold Machine.checkWithdraw
  dsimp only
  split
  · rename_i h hh
    split
    · exact addPurpose (ha h hh) s
    · exact refl s
  · exact refl s

theorem originEnters (ha : ∀ x p, adds (.offer x p) = true) (s : State) : Edits drops adds s (originEnters s) := by
  unfold Machine.originEnters
  refine (foldl fun u r _ => ?_).trans (foldl fun u n _ => evaluateLine (ha _) u)
  unfold offerRaise
  split
  · exact addPurpose (ha _ _) u
  · exact refl u

end Edits

/-! ### The reactions of the origin unit, one line of a report at a time (R65, R123 to R128) -/

/-- What the origin unit makes of a line of a report that is not a creation, at the record that holds the handle. -/
def entryReaction (b : Became) (x : Source) (h : Handle) (s : State) : State :=
  match b with
  | .claimed _ => sourceClaimed x s
  | .returnedByRevoke | .returnedByDeparture _ => sourceReturned x s
  | .removedByDone => sourceRetires x s
  | .removedByWithdraw => sourceWithdrawn x s
  | .removedByRevoke => sourceDropped x h s
  | .created | .removedByClaimantDeparture _ | .removedByOriginDeparture _ | .orphaned _ => s

/-- The handle of the entry that a line of a report is about. -/
def EntryChange.handle (c : EntryChange) : Handle := ⟨c.entry.slot, c.entry.tag⟩

/-- The source of an OFFER that was sent. -/
def Sent.offerer (x : Sent) : Option Source :=
  match x.purpose.aim with
  | .offer y _ => some y
  | _ => none

/-- An entry created is matched to the OFFER sent. -/
theorem originReacts_created {sent : Option Sent} {s : State} {c : EntryChange} (hb : c.became = .created) :
    originReacts sent s c = if c.entry.origin = s.number ∧ c.entry.orphan = false then
      match sent.bind Sent.offerer with
      | some x => sourceOffered x c.handle s
      | none => s
    else s := by
  unfold originReacts
  dsimp only
  rw [hb]
  refine ite_congr rfl (fun _ => ?_) (fun _ => rfl)
  dsimp only
  cases sent with
  | none => rfl
  | some y =>
    obtain ⟨⟨aim, age, count, aside⟩, offered⟩ := y
    cases aim <;> rfl

/-- Every other line is about the record that holds the handle. -/
theorem originReacts_held {sent : Option Sent} {s : State} {c : EntryChange} (hb : c.became ≠ .created) :
    originReacts sent s c = if c.entry.origin = s.number ∧ c.entry.orphan = false then
      match holderOf s c.handle with
      | none => s
      | some x => entryReaction c.became x c.handle s
    else s := by
  unfold originReacts
  dsimp only
  refine ite_congr rfl (fun _ => ?_) (fun _ => rfl)
  unfold EntryChange.handle
  cases hh : holderOf s ⟨c.entry.slot, c.entry.tag⟩ <;> cases hk : c.became <;>
    first | exact absurd hk hb | rfl

/-- A holder that is a line has the handle. -/
theorem handle_of_holder {s : State} {h : Handle} {x : Source} (hh : holderOf s h = some x) {n : Line}
    (hn : x = .line n) : s.origin.lines[n].handle = some h := holderOf_line (by rw [hh, hn])

/-- The reactions at one record add purposes for it and its entry alone, and drop none. -/
theorem Edits.entryReaction {drops adds : Aim → Bool} {x : Source} {h : Handle} {s : State}
    (hx : ∀ n, x = .line n → s.origin.lines[n].handle = some h)
    (ha : ∀ a, Aim.comesFrom x h a = true → adds a = true) (b : Became) :
    Edits drops adds s (entryReaction b x h s) := by
  have hsame : ∀ {u : State}, u.agenda = s.agenda → Edits drops adds s u := fun hu => of_agenda (by rw [hu]) (by rw [hu])
  have hoffer : ∀ {n : Line}, x = .line n → ∀ p, adds (.offer (.line n) p) = true := fun hn p =>
    ha _ (by simp [Aim.comesFrom, hn])
  cases b
  case claimed y => exact hsame (by simp [Machine.entryReaction])
  case returnedByRevoke | returnedByDeparture =>
    cases x with
    | line n =>
      refine (hsame (u := changeLine n _ s) (by simp)).trans (checkWithdraw fun g hg => ?_)
      rw [changeLine_lines, if_pos rfl] at hg
      obtain rfl : h = g := Option.some.inj ((hx n rfl).symm.trans hg)
      exact ha _ (by simp [Aim.comesFrom])
    | raise id => exact hsame (by simp [Machine.entryReaction, sourceReturned])
  case removedByDone =>
    cases x
    · change Edits drops adds s (rearmLine _ s)
      unfold rearmLine
      dsimp only
      split
      · exact (hsame (by simp)).trans (evaluateLine (hoffer rfl) _)
      · split
        · exact (hsame (by simp)).trans (lineWants (hoffer rfl) _)
        · exact hsame (by simp)
    · exact hsame (by simp [Machine.entryReaction, sourceRetires, raiseEnds])
  case removedByWithdraw =>
    cases x
    · exact (hsame (by simp)).trans (evaluateLine (hoffer rfl) _)
    · exact refl s
  case removedByRevoke =>
    cases x
    · exact hsame (by simp [Machine.entryReaction, sourceDropped])
    · exact hsame (by simp [Machine.entryReaction, sourceDropped, raiseEnds])
  all_goals exact refl s

theorem Edits.sourceOffered {drops adds : Aim → Bool} {x : Source} {h : Handle}
    (hd : ∀ a, Aim.isOfferOf x a = true → drops a = true) (ha : ∀ a, Aim.comesFrom x h a = true → adds a = true)
    (s : State) : Edits drops adds s (sourceOffered x h s) := by
  unfold Machine.sourceOffered
  split
  · rename_i n
    split
    · refine (of_agenda (t := changeLine n _ s) (by simp) (by simp)).trans
        ((dropPurposes hd _).trans (checkWithdraw fun g hg => ?_))
      rw [(dropPurposes_frame _ _).2.2.2.2.1, changeLine_lines, if_pos rfl] at hg
      obtain rfl : h = g := Option.some.inj hg
      exact ha _ (by simp [Aim.comesFrom])
    · exact refl s
  · exact of_agenda (by simp) (by simp)

/-- The origin unit drops OFFERs only where one was taken, and adds OFFERs, and WITHDRAWs for the entry of the line. -/
theorem Edits.originReacts {drops adds : Aim → Bool} {c : EntryChange}
    (hd : c.became = .created → ∀ a, a.isOffer = true → drops a = true)
    (ha : ∀ x a, Aim.comesFrom x c.handle a = true → adds a = true) (sent : Option Sent) (s : State) :
    Edits drops adds s (originReacts sent s c) := by
  by_cases hb : c.became = .created
  · rw [originReacts_created hb]
    split
    · split
      · refine sourceOffered (fun a h => hd hb a ?_) (ha _) s
        cases a <;> first | rfl | cases h
      · exact refl s
    · exact refl s
  · rw [originReacts_held hb]
    split
    · split
      · exact refl s
      · rename_i x hx
        exact entryReaction (fun n hn => handle_of_holder hx hn) (ha x) _
    · exact refl s

end Sys2Proof.Machine
end


section
/-! What the outcome of an attempt leaves of the purpose it was built from, and of the purposes that follow the copy
(R91, R92, R94, R106, R138). -/

set_option Elab.async false

namespace Sys2Proof.Machine

/-- What is applied has taken (R50). -/
theorem took_of_applied {me : Station} {x : Seen} {r : Record} (h : (judge me x r).applied = true) :
    (judge me x r).took = true := by
  rcases judge_cases me x r with h0 | ⟨-, -, hj⟩ | ⟨-, -, hj⟩
  · rw [judge_of_none_left h0] at h
    cases h
  · rw [hj]
    rfl
  · rw [hj] at h
    cases h

/-- The report of a failed attempt has lines of departures alone. -/
theorem byDeparture_of_failed {me : Station} {x : Seen} {r : Record} (h : (judge me x r).took = false) :
    ∀ c ∈ (judge me x r).changes, c.became.byDeparture = true := by
  rcases judge_applied_cases me x r with ⟨f, -, -, happ, -⟩ | ⟨-, hall⟩
  · exact absurd (took_of_applied happ) (by rw [h]; exact Bool.false_ne_true)
  · exact hall

/-! ### The stages before the blocks' reactions -/

/-- The station with the departures and the faults about its own place posted (R56, R58, R110). -/
def placedBy (s : State) (a : Attempt) (c : Instr) (r : Record) : State :=
  postOwnPlace (judgementOf s a c r).diverged (lostBy s a c r)
    (judgementPosted (judgementOf s a c r) (attemptPast (ended a c) s))

/-- The station with the outcome counted against the purpose it sent (R91, R92). -/
def countedBy (s : State) (a : Attempt) (c : Instr) (r : Record) : State :=
  if a.driven.isSome then countSent (judgementOf s a c r).took (placedBy s a c r) else placedBy s a c r

/-- The purposes that leave the agenda after the count of an attempt that leaves the station in the group's work. -/
def leavesAfter (ownBeaconFailed took : Bool) : Aim → Bool
  | .duty | .claim => true
  | .offer _ _ => took
  | .beacon => !ownBeaconFailed
  | _ => false

/-- The purposes that come then. -/
def comesAfter : Aim → Bool
  | .duty | .claim | .offer _ _ | .withdraw _ _ => true
  | _ => false

theorem comesAfter_of_comesFrom {x : Source} {h : Handle} {a : Aim} (ha : Aim.comesFrom x h a = true) :
    comesAfter a = true := by
  cases a <;> first | rfl | cases ha

section

variable {s : State} {a : Attempt} {c : Instr} {r : Record}

theorem placedBy_frame (s : State) (a : Attempt) (c : Instr) (r : Record) :
    (placedBy s a c r).number = s.number ∧ (placedBy s a c r).control = s.control ∧
      (placedBy s a c r).origin = s.origin ∧ (placedBy s a c r).claim = s.claim ∧
      (placedBy s a c r).record = some (judgementOf s a c r).record ∧
      (placedBy s a c r).agenda.purposes = s.agenda.purposes ∧
      (placedBy s a c r).agenda.nextAge = s.agenda.nextAge ∧ (placedBy s a c r).agenda.sent = s.agenda.sent := by
  simp [placedBy, judgementPosted, attemptPast, restartIdle]

theorem placedBy_store (s : State) (a : Attempt) (c : Instr) (r : Record) :
    (placedBy s a c r).port.store = s.port.store :=
  ((Reacts.postDepartures _ ((attemptPast (ended a c) s).setRecord (some (judgementOf s a c r).record))).trans
    (.postOwnPlace _ _ _)).host.store

/-- Whether the attempt was this station's own BEACON and failed (R94). -/
def ownBeaconFailed (s : State) (a : Attempt) (c : Instr) (r : Record) : Bool :=
  a.driven.isSome && sentBeacon s && !(judgementOf s a c r).took

/-- The station as the origin unit has taken the report (R61). -/
def originReacted (s : State) (a : Attempt) (c : Instr) (r : Record) : State :=
  (judgementOf s a c r).changes.foldl (originReacts (if a.driven.isSome then s.agenda.sent else none))
    (claimReacts a.driven.isSome (judgementOf s a c r).record (judgementOf s a c r).changes (countedBy s a c r))

theorem reactedTo_eq (s : State) (a : Attempt) (c : Instr) (r : Record) : reactedTo s a c r =
    updateBeacon a.driven.isSome (judgementOf s a c r).took
      (postRetryLimit (spentBy s a c r) (originReacted s a c r)) := rfl

/-- Up to the origin unit's reaction only the count moves the membership controller, the sent purpose or the copy. -/
theorem originReacted_reacts (s : State) (a : Attempt) (c : Instr) (r : Record) :
    Reacts ((attemptPast (ended a c) s).setRecord (some (judgementOf s a c r).record)) (originReacted s a c r) := by
  have hcount : Reacts (placedBy s a c r) (countedBy s a c r) := by
    unfold countedBy
    split
    · exact .countSent _ _
    · exact .refl _
  exact (((Reacts.postDepartures _ _).trans (.postOwnPlace _ _ _)).trans hcount).trans
    ((Reacts.claimReacts _ _ _ _).trans (.originReacts_all _ _ _))

theorem originReacted_sentBeacon : (a.driven.isSome && sentBeacon (postRetryLimit (spentBy s a c r)
    (originReacted s a c r)) && !(judgementOf s a c r).took) = ownBeaconFailed s a c r := by
  unfold ownBeaconFailed sentBeacon
  rw [((originReacted_reacts s a c r).trans (.postRetryLimit (spentBy s a c r) _)).sent]
  rfl

theorem originReacted_edits :
    Edits (leavesAfter (ownBeaconFailed s a c r) (judgementOf s a c r).took) comesAfter (countedBy s a c r)
      (originReacted s a c r) := by
  refine (Edits.of_agenda (t := claimReacts a.driven.isSome (judgementOf s a c r).record
    (judgementOf s a c r).changes (countedBy s a c r)) (by simp) (by simp)).trans (Edits.foldl fun u ch hch => ?_)
  refine Edits.originReacts (fun hb aim haim => ?_) (fun _ aim haim => comesAfter_of_comesFrom haim) _ u
  cases ht : (judgementOf s a c r).took
  · rw [judgementOf_eq] at ht hch
    have := byDeparture_of_failed ht ch hch
    rw [hb] at this
    cases this
  · cases aim <;> first | rfl | cases haim

/-- From the count to the station's own change of state. -/
theorem reactedTo_edits :
    Edits (leavesAfter (ownBeaconFailed s a c r) (judgementOf s a c r).took) comesAfter (countedBy s a c r)
      (reactedTo s a c r) := by
  refine originReacted_edits.trans ((Edits.of_agenda (t := postRetryLimit (spentBy s a c r) (originReacted s a c r))
    (by simp) (by simp)).trans ?_)
  rw [reactedTo_eq]
  unfold updateBeacon
  rw [originReacted_sentBeacon]
  split
  · exact .refl _
  · rename_i hb
    refine Edits.dropPurposes (fun aim haim => ?_) _
    rw [beq_iff_eq.mp haim]
    simpa [leavesAfter] using hb

/-- The station's own change of state, where it stays in the group's work. -/
theorem settledBy_edits {drops adds : Aim → Bool} (hd : drops .claim = true) (hc : adds .claim = true)
    (ho : ∀ x p, adds (.offer x p) = true) (h : (settledBy s a c r).control.state ≠ .departing) : Edits drops adds (reactedTo s a c r) (settledBy s a c r) := by
  unfold settledBy at h ⊢
  rcases settleState_cases (reactedTo s a c r) (judgementOf s a c r).diverged (lostBy s a c r)
    ((spentBy s a c r).any (fun p => p.aim == .leave)) (closedBy s a c r) with
    ⟨-, k, heq, -⟩ | ⟨-, ⟨-, hsync, heq⟩ | ⟨-, heq⟩⟩ <;> rw [heq] at h ⊢
  · rw [enterDeparting_control] at h
    exact absurd rfl h
  · rw [changeState_member]
    refine (Edits.of_agenda (t := markState .member (leaveState (reactedTo s a c r))) ?_ ?_).trans
      ((Edits.originEnters ho _).trans (.updateWant hd hc _))
    all_goals
      unfold leaveState
      rw [hsync]
      rfl
  · exact .refl _

theorem settledBy_departing (hs : s.judging) (h : (settledBy s a c r).control.state = .departing) :
    (settledBy s a c r).agenda.purposes = [] := by
  unfold settledBy at h ⊢
  rcases settleState_cases (reactedTo s a c r) (judgementOf s a c r).diverged (lostBy s a c r)
    ((spentBy s a c r).any (fun p => p.aim == .leave)) (closedBy s a c r) with
    ⟨-, k, heq, -⟩ | ⟨-, ⟨-, -, heq⟩ | ⟨-, heq⟩⟩ <;> rw [heq] at h ⊢
  · rw [(enterDeparting_frame _ _).2.2.2.1]
  · rw [changeState_state] at h
    cases h
  · rw [reactedTo_control] at h
    rcases hs with hs | hs | hs <;> rw [hs] at h <;> cases h

theorem attemptMade_state (hs : s.judging) (hr : s.record = some r) (hown : (judgementOf s a c r).own = none) :
    (attemptMade a c s).control.state = (settledBy s a c r).control.state := by
  rw [attemptMade_stays hs hr hown, (updateDutyWant_frame _).2.2.2.1]

/-- From the count to the end of an attempt that leaves the station in the group's work. -/
theorem attemptMade_edits (hs : s.judging) (hr : s.record = some r) (hown : (judgementOf s a c r).own = none)
    (h : (attemptMade a c s).control.state ≠ .departing) :
    Edits (leavesAfter (ownBeaconFailed s a c r) (judgementOf s a c r).took) comesAfter (countedBy s a c r)
      (attemptMade a c s) := by
  rw [attemptMade_state hs hr hown] at h
  rw [attemptMade_stays hs hr hown]
  exact (reactedTo_edits.trans (settledBy_edits rfl rfl (fun _ _ => rfl) h)).trans
    ((Edits.updateDuty rfl rfl _).trans (.updateWant rfl rfl _))

/-! ### The purpose sent -/

variable {q : Purpose} {h : Option Handle}

theorem SentIs.placedBy (i : SentIs s q h) : SentIs (placedBy s a c r) q h := by
  obtain ⟨-, -, -, -, -, hpurposes, hage, hsent⟩ := placedBy_frame s a c r
  exact ⟨agendaSound_of_same i.sound hpurposes hage (by rw [placedBy_store]), hsent.trans i.sent,
    by rw [hpurposes]; exact i.held⟩

/-- A take removes the purpose (R91). -/
theorem SentIs.gone_of_took (i : SentIs s q h) (hd : a.driven.isSome = true) (ht : (judgementOf s a c r).took = true)
    {drops adds : Aim → Bool} {t : State} (he : Edits drops adds (countedBy s a c r) t) :
    ∀ p ∈ t.agenda.purposes, p.age ≠ q.age := by
  have hp := i.placedBy (a := a) (c := c) (r := r)
  have hcounted : countedBy s a c r = (Machine.placedBy s a c r).setAgenda { (Machine.placedBy s a c r).agenda with
      purposes := (Machine.placedBy s a c r).agenda.purposes.filter (· ≠ q) } := by
    unfold countedBy
    rw [if_pos hd, ht, hp.countSent_took, hp.dropSent]
  rw [hcounted] at he
  intro p hmem hage
  rcases he.came p hmem with hin | ⟨hnew, -⟩
  · obtain ⟨hin, hne⟩ := List.mem_filter.mp hin
    exact of_decide_eq_true hne (purpose_eq_of_age hp.sound hin hp.held hage)
  · exact absurd (hp.sound.2.1 q hp.held).1 (Nat.not_lt.mpr (hage ▸ hnew))

/-- A failure counts one more, or at L sets the purpose aside (R91, R92). -/
theorem SentIs.counted_of_failed (i : SentIs s q h) (hd : a.driven.isSome = true)
    (ht : (judgementOf s a c r).took = false)
    (haim : q.aim ≠ .join ∧ q.aim ≠ .found ∧ q.aim ≠ .departureNull) {t : State}
    (he : Edits (leavesAfter (ownBeaconFailed s a c r) (judgementOf s a c r).took) comesAfter (countedBy s a c r) t) :
    (∀ p ∈ t.agenda.purposes, p.age = q.age → p = countFailure s q) ∧
      (q.aim ≠ .duty → q.aim ≠ .claim → countFailure s q ∈ t.agenda.purposes) := by
  have hp := i.placedBy (a := a) (c := c) (r := r)
  have hsame : countFailure (Machine.placedBy s a c r) q = countFailure s q := by
    rw [countFailure_eq, countFailure_eq, placedBy_store, (placedBy_frame s a c r).1]
  have hcounted : countedBy s a c r = (Machine.placedBy s a c r).setAgenda { (Machine.placedBy s a c r).agenda with
      purposes := (Machine.placedBy s a c r).agenda.purposes.map (fun p => if p = q then countFailure s q else p) } := by
    unfold countedBy
    rw [if_pos hd, ht, hp.countSent_failed haim.2.2 (fun hjf => absurd hjf (by simp [haim.1, haim.2.1])), hsame]
  have hkind : (countFailure s q).aim = q.aim := by
    rw [countFailure_eq]
    split <;> rfl
  rw [hcounted] at he
  refine ⟨fun p hmem hage => ?_, fun hduty hclaim => he.kept _ (List.mem_map.mpr ⟨q, hp.held, if_pos rfl⟩) ?_⟩
  · rcases he.came p hmem with hin | ⟨hnew, -⟩
    · obtain ⟨x, hx, rfl⟩ := List.mem_map.mp hin
      by_cases hq : x = q
      · rw [if_pos hq]
      · rw [if_neg hq] at hage
        exact absurd (purpose_eq_of_age hp.sound hx hp.held hage) hq
    · exact absurd (hp.sound.2.1 q hp.held).1 (Nat.not_lt.mpr (hage ▸ hnew))
  · rw [hkind, ht]
    have hbeacon : q.aim = .beacon → ownBeaconFailed s a c r = true := fun hb => by
      unfold ownBeaconFailed sentBeacon
      rw [hd, ht, i.sent]
      simp [hb]
    cases hk : q.aim <;> first | rfl | exact absurd hk hduty | exact absurd hk hclaim | simp [leavesAfter, hbeacon hk]

/-- At L the failure is reported (R92). -/
theorem SentIs.retryLimit_reported (i : SentIs s q h) (hs : s.judging) (hr : s.record = some r)
    (hown : (judgementOf s a c r).own = none) (hd : a.driven.isSome = true) (ht : (judgementOf s a c r).took = false)
    (hnull : q.aim ≠ .departureNull) (hl : s.port.store.l ≤ q.count + 1) {slot : Option Slot} {line : Option Line}
    (hslot : q.aim.faultSlot = slot) (hline : q.aim.faultLine = line) :
    Reported (attemptEnds (responsesOf a c) a s) {
      kind := .retryLimit, stamp := s.port.clock, station := none, slot := slot, line := line
      seq := some (judgementOf s a c r).record.seq, cause := none } := by
  subst hslot hline
  have hspent : spentBy s a c r = some q := by
    have hex := i.exhausted
    rw [if_pos ⟨hl, hnull⟩] at hex
    unfold spentBy judgementSpent
    rw [ht, show (seenAs s a c).isSender = true from hd]
    exact hex
  have hreacts := originReacted_reacts s a c r
  have hpost := Posts.postFault .retryLimit none q.aim.faultSlot q.aim.faultLine none (originReacted s a c r)
  have hfault : faultOf .retryLimit none q.aim.faultSlot q.aim.faultLine none (originReacted s a c r) = {
      kind := .retryLimit, stamp := s.port.clock, station := none, slot := q.aim.faultSlot, line := q.aim.faultLine
      seq := some (judgementOf s a c r).record.seq, cause := none } := by
    unfold faultOf
    rw [hreacts.host.clock, hreacts.record]
    rfl
  refine reported_of_reactedTo hs hr hown ?_
  rw [reactedTo_eq, hspent, ← hfault]
  exact (hpost.reported List.mem_cons_self).then_posts (.none_of_port (by simp [postRetryLimit, originReacted]))

/-! ### The purposes that follow the copy and the claim unit -/

/-- The duty is held exactly at the respondent, where the state takes it in (R106). -/
theorem updateDutyWant_duty {u : State} (hs : u.control.state = .member ∨ u.control.state = .leaving) :
    holdsAim (· == .duty) (updateWant (updateDuty u)) = u.record.any (isRespondent u.number) := by
  have hwant : holdsAim (· == .duty) (updateWant (updateDuty u)) = holdsAim (· == .duty) (updateDuty u) :=
    (Edits.updateWant (drops := (· == .claim)) (adds := (· == .claim)) rfl rfl _).holds_eq
      (fun aim h => by rw [beq_iff_eq.mp h]; rfl) (fun aim h => by rw [beq_iff_eq.mp h]; rfl)
  rw [hwant]
  unfold updateDuty
  split
  · rename_i hresp
    have htakes : takesIn u.control.state .duty = true := by
      rcases hs with h | h <;> rw [h] <;> rfl
    obtain ⟨p, hp, hkind⟩ := addPurpose_held htakes
    rw [hresp]
    refine List.any_eq_true.mpr ⟨p, hp, ?_⟩
    rcases hkind with hkind | hkind
    · rw [hkind]
      rfl
    · cases haim : p.aim <;> rw [haim] at hkind <;> first | rfl | cases hkind
  · rename_i hresp
    rw [Bool.eq_false_iff.mpr hresp]
    exact List.any_eq_false.mpr fun p hp => by simp [(mem_dropPurposes.mp hp).2]

/-- A BEACON goes unless the attempt was this station's own and failed (R94). -/
theorem reactedTo_beacon (hb : ownBeaconFailed s a c r = false) : holdsAim (· == .beacon) (reactedTo s a c r) = false := by
  rw [reactedTo_eq]
  unfold updateBeacon
  rw [originReacted_sentBeacon, hb, if_neg Bool.false_ne_true]
  exact List.any_eq_false.mpr fun p hp => by simp [(mem_dropPurposes.mp hp).2]

/-- The count of a failed attempt leaves every purpose of a BEACON held, and brings none (R91). -/
theorem countedBy_beacon (hb : ownBeaconFailed s a c r = true) :
    holdsAim (· == .beacon) (countedBy s a c r) = holdsAim (· == .beacon) s := by
  obtain ⟨-, -, -, -, -, hpurposes, -, hsent⟩ := placedBy_frame s a c r
  unfold ownBeaconFailed sentBeacon at hb
  simp only [Bool.and_eq_true, Bool.not_eq_true'] at hb
  obtain ⟨⟨hd, hbeacon⟩, ht⟩ := hb
  obtain ⟨x, hx, haim⟩ := Option.any_eq_true _ _ |>.mp hbeacon
  have hkind : ∀ p, (countFailure (placedBy s a c r) p).aim = p.aim := fun p => by
    rw [countFailure_eq]
    split <;> rfl
  unfold countedBy countSent
  rw [if_pos hd, ht, hsent, hx]
  dsimp only
  rw [beq_iff_eq.mp haim]
  refine (congrArg (holdsAim _) (if_neg (by simp))).trans ?_
  unfold holdsAim
  rw [State.setAgenda_agenda, List.any_map, hpurposes]
  refine congrArg (fun f => List.any _ f) (funext fun p => ?_)
  rw [Function.comp_apply]
  split
  · rw [hkind]
  · rfl

end

end Sys2Proof.Machine

namespace Sys2Proof.Proofs

open Sys2Proof.Machine

section

variable {s : State} {a : Attempt} {c : Instr} {r : Record} {q : Purpose} {h : Option Handle}

theorem attemptEnds_sent (hd : a.driven.isSome = true) : (attemptEnds (responsesOf a c) a s).agenda.sent = none := by
  obtain ⟨-, -, -, -, -, -, hagenda, -⟩ := attemptEnds_blocks s a c
  rw [hagenda]
  exact if_pos hd

/-- What becomes of the purpose sent at a station that stays in the group's work (R91, R92). -/
theorem attemptEnds_counts (i : SentIs s q h) (hs : s.judging) (hr : s.record = some r)
    (hown : (judgementOf s a c r).own = none) (hd : a.driven.isSome = true)
    (haim : q.aim ≠ .join ∧ q.aim ≠ .found ∧ q.aim ≠ .departureNull)
    (hstay : (attemptEnds (responsesOf a c) a s).control.state ≠ .departing) :
    let t := attemptEnds (responsesOf a c) a s
    ((judgementOf s a c r).took = true → ∀ p ∈ t.agenda.purposes, p.age ≠ q.age) ∧
      ((judgementOf s a c r).took = false → (∀ p ∈ t.agenda.purposes, p.age = q.age → p = countFailure s q) ∧
        (q.aim ≠ .duty → q.aim ≠ .claim → countFailure s q ∈ t.agenda.purposes)) := by
  obtain ⟨-, -, hcontrol, -, -, -, hagenda, -⟩ := attemptEnds_blocks s a c
  intro t
  rw [show t.agenda = _ from hagenda]
  rw [hcontrol] at hstay
  have hedits := attemptMade_edits hs hr hown hstay
  exact ⟨fun ht => i.gone_of_took hd ht hedits, fun ht => i.counted_of_failed hd ht haim hedits⟩

/-- A judgement that leaves a member in the group with its copy undiverged leaves it MEMBER (R58, R110, R111). -/
theorem attemptEnds_member (hs : s.control.state = .member) (hr : s.record = some r)
    (hown : (judgementOf s a c r).own = none) (hdiv : (judgementOf s a c r).diverged = false) :
    (attemptEnds (responsesOf a c) a s).control.state = .member := by
  obtain ⟨-, -, hcontrol, -⟩ := attemptEnds_blocks s a c
  have hlost : lostBy s a c r = false := by
    rw [Bool.eq_false_iff, Ne, lostBy_iff, hs]
    simp
  rw [hcontrol, attemptMade_state (.inr (.inl hs)) hr hown, settledBy_state, hdiv, hlost, hs]
  simp

/-- Settles O53: the count at the stage before the reactions, and what those leave of it. -/
theorem attemptsCountAgainstTheirPurpose : Obligations.AttemptsCountAgainstTheirPurpose := by
  refine ⟨fun s a c r q h hend hr hs hsound hd hsent hq hj hf hn => ?_,
    fun s a c r q h hend hr hs hplace hsound hd hsent hq => ?_, fun s a c r hend hr hs => ?_⟩
  · intro j after hown hdiv
    have i : SentIs s q h := ⟨hsound, hsent, hq⟩
    have hmember := attemptEnds_member hs hr hown hdiv
    obtain ⟨htook, hfailed⟩ := attemptEnds_counts i (.inr (.inl hs)) hr hown hd ⟨hj, hf, hn⟩
      (by rw [hmember]; decide)
    rw [countFailure_eq] at hfailed
    refine ⟨_, hend.exec, attemptEnds_sent hd, htook, fun ht => ⟨(hfailed ht).1, (hfailed ht).2, fun hl => ?_⟩⟩
    exact i.retryLimit_reported (.inr (.inl hs)) hr hown hd ht hn hl (by cases hk : q.aim <;> rfl) rfl
  · intro j after hown
    have i : SentIs s q h := ⟨hsound, hsent, hq⟩
    have hjudging : s.judging := hs.elim .inl fun hl => .inr (.inr hl)
    have haim : q.aim ≠ .join ∧ q.aim ≠ .found ∧ q.aim ≠ .departureNull := by
      have hfit := (placeSound_iff.mp hplace).purposes q hq
      rcases hs with hs | hs <;> rw [hs] at hfit
      · rcases (by simpa [aimFits] using hfit : q.aim = .leave ∨ q.aim = .beacon) with hk | hk <;> simp [hk]
      · simpa [aimFits, and_assoc] using hfit
    refine ⟨_, hend.exec, attemptEnds_sent hd, fun hstay => ?_, fun ht hl => ?_⟩
    · have hcounts := attemptEnds_counts i hjudging hr hown hd haim hstay
      rw [countFailure_eq] at hcounts
      exact hcounts
    · exact i.retryLimit_reported hjudging hr hown hd ht haim.2.2 hl (by cases hk : q.aim <;> rfl) rfl
  · intro j ownFailed hown
    obtain ⟨hnumber, hrecord, hcontrol, -, hclaim, -, hagenda, hport⟩ := attemptEnds_blocks s a c
    have hmade := attemptMade_stays hs hr hown
    have hholds : ∀ which, holdsAim which (attemptEnds (responsesOf a c) a s) = holdsAim which (attemptMade a c s) :=
      fun which => by
        unfold holdsAim
        rw [hagenda]
    have hfailed : ownBeaconFailed s a c r = true ↔ ownFailed := by
      unfold ownBeaconFailed sentBeacon
      simp only [Bool.and_eq_true, Bool.not_eq_true', Option.any_eq_true, beq_iff_eq, and_assoc]
      exact and_congr Iff.rfl and_comm
    have hbeacon : ∀ {t u : State}, Edits (leavesAfter true j.took) comesAfter t u →
        holdsAim (· == .beacon) u = holdsAim (· == .beacon) t := fun he =>
      he.holds_eq (fun aim h => by rw [beq_iff_eq.mp h]; rfl) (fun aim h => by rw [beq_iff_eq.mp h]; rfl)
    refine ⟨_, hend.exec, fun hstate => ?_, ?_, fun hnot => ?_, fun how hstay => ?_⟩
    · rw [hcontrol, hmade, (updateDutyWant_frame _).2.2.2.1] at hstate
      have hframe := settleState_frame j.diverged (lostBy s a c r) ((spentBy s a c r).any (fun p => p.aim == .leave))
        (closedBy s a c r) (reactedTo s a c r)
      have hreacts := reactedTo_reacts s a c r
      rw [hholds, hmade, updateDutyWant_duty hstate]
      have hrec : (settledBy s a c r).record = some j.record := hframe.2.2.1.trans hreacts.record
      have hnum : (settledBy s a c r).number = s.number := hframe.1.trans hreacts.host.number
      rw [hrec, hnum]
      change isRespondent s.number j.record = true ↔ _
      unfold isRespondent
      cases j.record.join <;> simp
    · have hwant : wantsToClaim (attemptEnds (responsesOf a c) a s) = wantsToClaim (updateDuty (settledBy s a c r)) := by
        have hd : (attemptEnds (responsesOf a c) a s).port.store = (attemptMade a c s).port.store := by
          rw [((SameHostSide.attemptEnds (s := s) _ _).mpr (.refl s)).store, (attemptMade_host a c s).store]
        refine (wantsToClaim_congr (by rw [hcontrol]) hclaim hrecord (by rw [hd]) hnumber).trans ?_
        rw [hmade]
        exact wantsToClaim_congr (by simp) (by simp) (by simp) (by simp) (by simp)
      rw [hholds, hmade, updateWant_claim, hwant]
    · rw [hholds]
      have hb : ownBeaconFailed s a c r = false := Bool.eq_false_iff.mpr fun ht => hnot (hfailed.mp ht)
      by_cases hdep : (settledBy s a c r).control.state = .departing
      · have hempty : (settledBy s a c r).agenda.purposes = [] := settledBy_departing hs hdep
        unfold holdsAim
        rw [hmade, updateDutyWant_departing hdep hempty]
        rfl
      · have he := (settledBy_edits (drops := leavesAfter true j.took) (adds := comesAfter) rfl rfl (fun _ _ => rfl)
          hdep).trans ((Edits.updateDuty rfl rfl _).trans (.updateWant rfl rfl _))
        rw [hmade, hbeacon he, reactedTo_beacon hb]
    · rw [hcontrol] at hstay
      rw [hholds, hbeacon (hfailed.mpr how ▸ attemptMade_edits hs hr hown hstay), countedBy_beacon (hfailed.mpr how)]

end

end Sys2Proof.Proofs
end


section
/-! What a reaction of the origin unit to one line of a report leaves as it was: every record but the one it is about
(R65, R123 to R128). -/

set_option Elab.async false

namespace Sys2Proof.Machine

/-- From s to t the origin unit moved only the record of the source x, and took up no handle but h. -/
structure OriginMoves (x : Source) (h : Handle) (s t : State) : Prop where
  levels : t.origin.levels = s.origin.levels
  lines : ∀ m : Line, x ≠ .line m → t.origin.lines[m] = s.origin.lines[m]
  lineHandles : ∀ (m : Line) (g : Handle), t.origin.lines[m].handle = some g → s.origin.lines[m].handle = some g ∨ g = h
  raises : ∀ r ∈ s.origin.raises, x ≠ .raise r.id → r ∈ t.origin.raises
  raiseHandles : ∀ r ∈ t.origin.raises, ∀ g, r.handle = some g →
    (∃ r₀ ∈ s.origin.raises, r₀.id = r.id ∧ r₀.handle = some g) ∨ g = h
  ids : (t.origin.raises.map RaiseRecord.id).Sublist (s.origin.raises.map RaiseRecord.id)

namespace OriginMoves

variable {x : Source} {h : Handle} {s t u : State}

theorem of_origin (ho : t.origin = s.origin) : OriginMoves x h s t := by
  constructor <;> rw [ho]
  · exact fun _ _ => rfl
  · exact fun _ _ hg => .inl hg
  · exact fun _ hr _ => hr
  · exact fun r hr g hg => .inl ⟨r, hr, rfl, hg⟩

theorem refl (s : State) : OriginMoves x h s s := of_origin rfl

theorem trans (k : OriginMoves x h s t) (l : OriginMoves x h t u) : OriginMoves x h s u where
  levels := l.levels.trans k.levels
  lines m hm := (l.lines m hm).trans (k.lines m hm)
  lineHandles m g hg := (l.lineHandles m g hg).elim (k.lineHandles m g) .inr
  raises r hr hx := l.raises r (k.raises r hr hx) hx
  raiseHandles r hr g hg := by
    rcases l.raiseHandles r hr g hg with ⟨r₁, hr₁, hid, hg₁⟩ | hgh
    · rcases k.raiseHandles r₁ hr₁ g hg₁ with ⟨r₀, hr₀, hid₀, hg₀⟩ | hgh
      · exact .inl ⟨r₀, hr₀, hid₀.trans hid, hg₀⟩
      · exact .inr hgh
    · exact .inr hgh
  ids := l.ids.trans k.ids

theorem changeLine {n : Line} {f : LineRecord → LineRecord}
    (hf : ∀ l g, (f l).handle = some g → l.handle = some g ∨ g = h) (s : State) :
    OriginMoves (.line n) h s (changeLine n f s) where
  levels := by simp [Machine.changeLine]
  lines m hm := by
    rw [changeLine_lines, if_neg fun he => hm (by rw [he])]
  lineHandles m g hg := by
    rw [changeLine_lines] at hg
    split at hg
    · rename_i he
      rw [he]
      exact hf _ g hg
    · exact .inl hg
  raises r hr _ := by simpa [Machine.changeLine] using hr
  raiseHandles r hr g hg := .inl ⟨r, by simpa [Machine.changeLine] using hr, rfl, hg⟩
  ids := by simp [Machine.changeLine]

theorem changeLine_same {n : Line} {f : LineRecord → LineRecord} (hf : ∀ l, (f l).handle = l.handle) (s : State) :
    OriginMoves (.line n) h s (Machine.changeLine n f s) := changeLine (fun l g hg => .inl (by rwa [hf l] at hg)) s

theorem changeLine_cleared {n : Line} {f : LineRecord → LineRecord} (hf : ∀ l, (f l).handle = none) (s : State) :
    OriginMoves (.line n) h s (Machine.changeLine n f s) := changeLine (fun l g hg => by rw [hf l] at hg; cases hg) s

theorem changeRaise {id : RaiseId} {f : RaiseRecord → RaiseRecord} (hid : ∀ r, (f r).id = r.id)
    (hf : ∀ r g, (f r).handle = some g → r.handle = some g ∨ g = h) (s : State) :
    OriginMoves (.raise id) h s (changeRaise id f s) := by
  constructor <;> rw [changeRaise_origin] <;> dsimp only
  · exact fun _ _ => rfl
  · exact fun _ _ hg => .inl hg
  · intro r hr hx
    exact List.mem_map.mpr ⟨r, hr, if_neg fun he => hx (by rw [he])⟩
  · intro r hr g hg
    obtain ⟨r₀, hr₀, rfl⟩ := List.mem_map.mp hr
    split at hg
    · rename_i he
      rcases hf r₀ g hg with hg | hg
      · exact .inl ⟨r₀, hr₀, by rw [if_pos he, hid], hg⟩
      · exact .inr hg
    · rename_i he
      exact .inl ⟨r₀, hr₀, by rw [if_neg he], hg⟩
  · rw [List.map_map]
    have hsame : s.origin.raises.map (RaiseRecord.id ∘ fun r => if r.id = id then f r else r) =
        s.origin.raises.map RaiseRecord.id := by
      refine List.map_congr_left fun r _ => ?_
      rw [Function.comp_apply]
      split
      · rw [hid]
      · rfl
    rw [hsame]

theorem raiseEnds (id : RaiseId) (c : Completion) (s : State) : OriginMoves (.raise id) h s (raiseEnds id c s) := by
  have ho : (Machine.raiseEnds id c s).origin = { s.origin with
      raises := s.origin.raises.filter (fun r => r.id != id) } := by
    simp [Machine.raiseEnds, removeRaise]
  constructor <;> rw [ho] <;> dsimp only
  · exact fun _ _ => rfl
  · exact fun _ _ hg => .inl hg
  · intro r hr hx
    exact List.mem_filter.mpr ⟨hr, by simpa using fun he => hx (by rw [he])⟩
  · exact fun r hr g hg => .inl ⟨r, (List.mem_filter.mp hr).1, rfl, hg⟩
  · exact List.filter_sublist.map _

theorem lineWants (n : Line) (s : State) : OriginMoves (.line n) h s (lineWants n s) := by
  unfold Machine.lineWants
  refine .trans ?_ (of_origin (addPurpose_frame _ _).2.2.2.2.1)
  refine changeLine_same ?_ s
  exact fun _ => rfl

theorem evaluateLine (n : Line) (s : State) : OriginMoves (.line n) h s (evaluateLine n s) := by
  unfold Machine.evaluateLine
  split
  · exact lineWants n s
  · exact refl s

theorem checkWithdraw (n : Line) (s : State) : OriginMoves (.line n) h s (checkWithdraw n s) := of_origin (by simp)

theorem rearmLine (n : Line) (s : State) : OriginMoves (.line n) h s (rearmLine n s) := by
  unfold Machine.rearmLine
  dsimp only
  have hidle : OriginMoves (.line n) h s
      (Machine.changeLine n (fun l => { l with state := .idle, memo := false, handle := none, timer := none }) s) :=
    changeLine_cleared (fun _ => rfl) s
  split
  · exact hidle.trans (evaluateLine n _)
  · split
    · exact hidle.trans (lineWants n _)
    · exact hidle

theorem entryReaction (b : Became) (x : Source) (s : State) : OriginMoves x h s (entryReaction b x h s) := by
  unfold Machine.entryReaction
  cases x with
  | line n =>
    split
    · exact changeLine (f := fun l => { l with state := .served, timer := serviceTimer l.timeout })
        (fun _ _ hg => .inl hg) s
    all_goals try exact refl s
    · refine .trans ?_ (checkWithdraw n _)
      refine changeLine_same ?_ s
      exact fun _ => rfl
    · refine .trans ?_ (checkWithdraw n _)
      refine changeLine_same ?_ s
      exact fun _ => rfl
    · exact rearmLine n s
    · refine .trans ?_ (evaluateLine n _)
      refine changeLine_cleared ?_ s
      exact fun _ => rfl
    · refine .trans ?_ (of_origin (postFault_frame _ _ _ _ _ _).2.2.2.2.2.1)
      refine changeLine_cleared ?_ s
      exact fun _ => rfl
  | raise id =>
    split
    · exact changeRaise (f := fun r => { r with state := .served, timer := serviceTimer (raiseTimeout s r) })
        (fun _ => rfl) (fun _ _ hg => .inl hg) s
    all_goals try exact refl s
    · exact changeRaise (f := fun r => { r with state := .offered, timer := none })
        (fun _ => rfl) (fun _ _ hg => .inl hg) s
    · exact changeRaise (f := fun r => { r with state := .offered, timer := none })
        (fun _ => rfl) (fun _ _ hg => .inl hg) s
    · exact raiseEnds id _ s
    · exact raiseEnds id _ s

theorem sourceOffered (x : Source) (s : State) : OriginMoves x h s (sourceOffered x h s) := by
  unfold Machine.sourceOffered
  split
  · split
    · refine .trans (.trans ?_ (of_origin (dropPurposes_frame _ _).2.2.2.2.1)) (checkWithdraw _ _)
      refine changeLine ?_ s
      exact fun _ g hg => .inr (Option.some.inj hg).symm
    · exact refl s
  · exact changeRaise (f := fun r => { r with state := .offered, handle := some h }) (fun _ => rfl)
      (fun _ g hg => .inr (Option.some.inj hg).symm) s

end OriginMoves

/-- A line whose OFFER cannot be taken up, since it neither wants nor idles, ignores it (R120). -/
theorem sourceOffered_ignored {n : Line} {h : Handle} {s : State}
    (hl : s.origin.lines[n].state ≠ .want ∧ s.origin.lines[n].state ≠ .idle) : sourceOffered (.line n) h s = s := by
  unfold sourceOffered
  exact if_neg fun hor => hor.elim hl.1 hl.2

/-- The source a line of the report is about: the offerer at a creation, the holder of the handle otherwise. -/
def concerned (sent : Option Sent) (s : State) (c : EntryChange) : Option Source :=
  if c.became = .created then sent.bind Sent.offerer else holderOf s c.handle

/-- The origin unit's reaction moves the record of the source concerned, or none. -/
theorem originReacts_moves (sent : Option Sent) (s : State) (c : EntryChange) : originReacts sent s c = s ∨
    ∃ x, concerned sent s c = some x ∧ OriginMoves x c.handle s (originReacts sent s c) := by
  unfold concerned
  by_cases hb : c.became = .created
  · rw [originReacts_created hb, if_pos hb]
    split
    · split
      · rename_i x hx
        exact .inr ⟨x, hx, .sourceOffered x s⟩
      · exact .inl rfl
    · exact .inl rfl
  · rw [originReacts_held hb, if_neg hb]
    split
    · split
      · exact .inl rfl
      · rename_i x hx
        exact .inr ⟨x, hx, .entryReaction _ x s⟩
    · exact .inl rfl

/-- A line of a report that no record of station n takes up. -/
def EntryChange.inert (n : Station) (c : EntryChange) : Prop :=
  c.entry.origin ≠ n ∨ c.entry.orphan = true ∨ (∃ x, c.became = .removedByClaimantDeparture x) ∨
    (∃ x, c.became = .removedByOriginDeparture x) ∨ ∃ x, c.became = .orphaned x

theorem originReacts_inert {sent : Option Sent} {s : State} {c : EntryChange} (h : c.inert s.number) :
    originReacts sent s c = s := by
  by_cases hown : c.entry.origin = s.number ∧ c.entry.orphan = false
  · have hb : c.became ≠ .created ∧ ∀ x, entryReaction c.became x c.handle s = s := by
      rcases h with h | h | ⟨x, h⟩ | ⟨x, h⟩ | ⟨x, h⟩
      · exact absurd hown.1 h
      · exact absurd (hown.2.symm.trans h) Bool.false_ne_true
      all_goals
        rw [h]
        exact ⟨nofun, fun _ => rfl⟩
    rw [originReacts_held hb.1, if_pos hown]
    split
    · rfl
    · exact hb.2 _
  · by_cases hb : c.became = .created
    · rw [originReacts_created hb, if_neg hown]
    · rw [originReacts_held hb, if_neg hown]

/-- No record takes up a handle that the report does not name. -/
theorem originReacts_holders {sent : Option Sent} {cs : List EntryChange} {h : Handle} (hc : ∀ c ∈ cs, c.handle ≠ h)
    (s : State) : let t := cs.foldl (originReacts sent) s
    (∀ m : Line, t.origin.lines[m].handle = some h → s.origin.lines[m].handle = some h) ∧
      ∀ y ∈ t.origin.raises, y.handle = some h → ∃ y₀ ∈ s.origin.raises, y₀.id = y.id ∧ y₀.handle = some h := by
  induction cs generalizing s with
  | nil => exact ⟨fun _ hm => hm, fun y hy hh => ⟨y, hy, rfl, hh⟩⟩
  | cons c cs ih =>
    obtain ⟨hlines, hraises⟩ := ih (fun x hx => hc x (List.mem_cons_of_mem _ hx)) (originReacts sent s c)
    have hne := hc c List.mem_cons_self
    rcases originReacts_moves sent s c with hsame | ⟨x, -, hmoves⟩
    · rw [hsame] at hlines hraises
      rw [List.foldl_cons, hsame]
      exact ⟨hlines, hraises⟩
    · refine ⟨fun m hm => (hmoves.lineHandles m h (hlines m hm)).resolve_right fun he => hne he.symm, fun y hy hh => ?_⟩
      obtain ⟨y₁, hy₁, hid, hh₁⟩ := hraises y hy hh
      obtain ⟨y₀, hy₀, hid₀, hh₀⟩ := (hmoves.raiseHandles y₁ hy₁ h hh₁).resolve_right fun he => hne he.symm
      exact ⟨y₀, hy₀, hid₀.trans hid, hh₀⟩

/-! ### One line apart from the rest -/

/-- Whether the report creates an entry for the OFFER of the source. -/
def takesOffer (sent : Option Sent) (x : Source) (c : EntryChange) : Prop :=
  c.became = .created ∧ sent.bind Sent.offerer = some x

/-- From s to t line n stays as it is, and the agenda changes in no OFFER of the line and no WITHDRAW of the handle but
for the OFFERs dropped. -/
structure LineApart (n : Line) (h : Handle) (drops : Aim → Bool) (s t : State) : Prop where
  reacts : Reacts s t
  levels : t.origin.levels = s.origin.levels
  line : t.origin.lines[n] = s.origin.lines[n]
  edits : Edits drops (fun a => !withdrawOf h a && !offerOf (.line n) a) s t

namespace LineApart

variable {n : Line} {h : Handle} {drops : Aim → Bool} {s t u : State}

theorem refl (s : State) : LineApart n h drops s s := ⟨.refl s, rfl, rfl, .refl s⟩

theorem trans (k : LineApart n h drops s t) (l : LineApart n h drops t u) : LineApart n h drops s u :=
  ⟨k.reacts.trans l.reacts, l.levels.trans k.levels, l.line.trans k.line, k.edits.trans l.edits⟩

theorem originReacts {sent : Option Sent} {c : EntryChange} (hc : c.handle ≠ h ∨ c.inert s.number)
    (hline : s.origin.lines[n].handle ≠ some c.handle)
    (hoffer : takesOffer sent (.line n) c → s.origin.lines[n].state ≠ .want ∧ s.origin.lines[n].state ≠ .idle)
    (hd : c.became = .created → ∀ a, a.isOffer = true → drops a = true) :
    LineApart n h drops s (originReacts sent s c) := by
  have hunmoved : ∀ {u : State}, u = s → LineApart n h drops s u := fun hu => by rw [hu]; exact refl s
  rcases hc with hc | hinert
  case inr => exact hunmoved (originReacts_inert hinert)
  by_cases htakes : takesOffer sent (.line n) c
  · refine hunmoved ?_
    rw [originReacts_created htakes.1, htakes.2]
    exact (congrArg (fun u => ite _ u s) (sourceOffered_ignored (hoffer htakes))).trans (ite_self _)
  rcases originReacts_moves sent s c with hsame | ⟨x, hx, hmoves⟩
  · exact hunmoved hsame
  have hne : x ≠ .line n := by
    rintro rfl
    unfold concerned at hx
    split at hx
    · exact htakes ⟨‹_›, hx⟩
    · exact hline (holderOf_line hx)
  have hadds : ∀ a, Aim.comesFrom x c.handle a = true → (!withdrawOf h a && !offerOf (.line n) a) = true := by
    intro a ha
    cases a
    case offer y p =>
      have hy : y ≠ .line n := fun he => hne ((beq_iff_eq.mp ha).symm.trans he)
      simp [withdrawOf, offerOf, hy]
    case withdraw g m =>
      have hg : g ≠ h := fun he => by
        rw [Aim.comesFrom, Bool.and_eq_true, beq_iff_eq] at ha
        exact hc (ha.1.symm.trans he)
      simp [withdrawOf, offerOf, hg]
    all_goals cases ha
  refine ⟨.originReacts sent s c, hmoves.levels, hmoves.lines n hne, ?_⟩
  unfold concerned at hx
  by_cases hb : c.became = .created
  · rw [if_pos hb] at hx
    rw [originReacts_created hb, hx]
    split
    · exact .sourceOffered (fun a ha => hd hb a (by cases a <;> first | rfl | cases ha)) hadds s
    · exact .refl s
  · rw [if_neg hb] at hx
    rw [originReacts_held hb, hx]
    split
    · exact .entryReaction (fun m hm => handle_of_holder hx hm) hadds _
    · exact .refl s

/-- Along lines of a report about other handles. -/
theorem foldl {sent : Option Sent} {cs : List EntryChange} (hc : ∀ c ∈ cs, c.handle ≠ h ∨ c.inert s.number)
    (hline : ∀ c ∈ cs, s.origin.lines[n].handle ≠ some c.handle)
    (hoffer : ∀ c ∈ cs, takesOffer sent (.line n) c → s.origin.lines[n].state ≠ .want ∧ s.origin.lines[n].state ≠ .idle)
    (hd : ∀ c ∈ cs, c.became = .created → ∀ a, a.isOffer = true → drops a = true) :
    LineApart n h drops s (cs.foldl (Machine.originReacts sent) s) := by
  induction cs generalizing s with
  | nil => exact refl s
  | cons c cs ih =>
    have hfirst := originReacts (s := s) (hc c List.mem_cons_self) (hline c List.mem_cons_self)
      (hoffer c List.mem_cons_self) (hd c List.mem_cons_self)
    refine hfirst.trans (ih (fun x hx => ?_) (fun x hx => ?_) (fun x hx => ?_)
      (fun x hx => hd x (List.mem_cons_of_mem _ hx)))
    · rw [hfirst.reacts.host.number]
      exact hc x (List.mem_cons_of_mem _ hx)
    · rw [hfirst.line]
      exact hline x (List.mem_cons_of_mem _ hx)
    · rw [hfirst.line]
      exact hoffer x (List.mem_cons_of_mem _ hx)

end LineApart

/-! ### One raise apart from the rest -/

/-- A holder that is a raise has the handle. -/
theorem raise_of_holder {s : State} {h : Handle} {id : RaiseId} (hh : holderOf s h = some (.raise id)) :
    ∃ r ∈ s.origin.raises, r.id = id ∧ r.handle = some h := by
  unfold holderOf at hh
  split at hh
  · cases hh
  · obtain ⟨r, hr, hid⟩ := Option.map_eq_some_iff.mp hh
    refine ⟨r, List.mem_of_find?_eq_some hr, Source.raise.inj hid, ?_⟩
    exact beq_iff_eq.mp (List.find?_some (p := fun r : RaiseRecord => r.handle == some h) hr)

/-- The raise list never gains an id. -/
theorem originReacts_ids (sent : Option Sent) (cs : List EntryChange) (s : State) :
    ((cs.foldl (originReacts sent) s).origin.raises.map RaiseRecord.id).Sublist
      (s.origin.raises.map RaiseRecord.id) := by
  induction cs generalizing s with
  | nil => exact .refl _
  | cons c cs ih =>
    refine (ih (originReacts sent s c)).trans ?_
    rcases originReacts_moves sent s c with hsame | ⟨x, -, hmoves⟩
    · rw [hsame]
    · exact hmoves.ids

/-- Along lines of a report about other handles a raise stays as it is. -/
theorem originReacts_keeps_raise {sent : Option Sent} {cs : List EntryChange} {x : RaiseRecord} {s : State}
    (hnodup : (s.origin.raises.map RaiseRecord.id).Nodup) (hx : x ∈ s.origin.raises)
    (hraise : ∀ c ∈ cs, x.handle ≠ some c.handle) (hoffer : ∀ c ∈ cs, ¬takesOffer sent (.raise x.id) c) :
    x ∈ (cs.foldl (originReacts sent) s).origin.raises := by
  induction cs generalizing s with
  | nil => exact hx
  | cons c cs ih =>
    have hfirst : x ∈ (originReacts sent s c).origin.raises := by
      rcases originReacts_moves sent s c with hsame | ⟨y, hy, hmoves⟩
      · rw [hsame]
        exact hx
      · refine hmoves.raises x hx ?_
        rintro rfl
        unfold concerned at hy
        split at hy
        · exact hoffer c List.mem_cons_self ⟨‹_›, hy⟩
        · obtain ⟨r, hr, hid, hrh⟩ := raise_of_holder hy
          exact hraise c List.mem_cons_self (List.inj_on_of_nodup_map hnodup hr hx hid ▸ hrh)
    exact ih ((originReacts_ids sent [c] s).nodup hnodup) hfirst (fun y hy => hraise y (List.mem_cons_of_mem _ hy))
      (fun y hy => hoffer y (List.mem_cons_of_mem _ hy))

end Sys2Proof.Machine
end


section
/-! One line of a report at the record that holds its entry, set among the other lines of the report (R120 to R128). -/

set_option Elab.async false

namespace Sys2Proof.Machine

/-! ### A purpose gained -/

/-- From s to t a purpose of the kind is held, and it is the new one with the aim a unless one was held before. -/
def Gained (which : Aim → Bool) (a : Aim) (s t : State) : Prop :=
  holdsAim which t = true ∧ (holdsAim which s = false → holdsAim (· == a) t = true)

namespace Gained

variable {which : Aim → Bool} {a : Aim} {s t u : State}

theorem before (h : Gained which a t u) (hs : holdsAim which s = false → holdsAim which t = false) :
    Gained which a s u := ⟨h.1, h.2 ∘ hs⟩

theorem after (h : Gained which a s t) (ha : which a = true) {drops adds : Aim → Bool} (he : Edits drops adds t u)
    (hd : ∀ b, which b = true → drops b = false) : Gained which a s u :=
  ⟨he.keeps_held hd h.1, fun hs => he.keeps_held (fun b hb => hd b (by rw [beq_iff_eq.mp hb]; exact ha)) (h.2 hs)⟩

theorem of_agenda (h : Gained which a s t) (hs : s.agenda.purposes = u.agenda.purposes) : Gained which a u t :=
  h.before fun hu => by
    unfold holdsAim at hu ⊢
    rw [hs]
    exact hu

theorem addPurpose (htakes : takesIn s.control.state a = true) (ha : which a = true)
    (hw : ∀ b, b.clashes a = true → which b = true) : Gained which a s (addPurpose a s) := by
  rcases addPurpose_cases a s with ⟨-, -, heq⟩ | ⟨hno | ⟨p, hp, hclash⟩, heq⟩ <;> rw [heq]
  · have hmem : (⟨a, s.agenda.nextAge, 0, none⟩ : Purpose) ∈ s.agenda.purposes ++ [⟨a, s.agenda.nextAge, 0, none⟩] :=
      List.mem_append_right _ List.mem_cons_self
    exact ⟨List.any_eq_true.mpr ⟨_, hmem, ha⟩, fun _ => List.any_eq_true.mpr ⟨_, hmem, beq_self_eq_true _⟩⟩
  · exact absurd htakes (by rw [hno]; exact Bool.false_ne_true)
  · have hheld : holdsAim which s = true := List.any_eq_true.mpr ⟨p, hp, hw _ hclash⟩
    exact ⟨hheld, fun hs => absurd hheld (by rw [hs]; exact Bool.false_ne_true)⟩

theorem withdraw {h : Handle} {n : Line} (htakes : takesIn s.control.state (.withdraw h n) = true) :
    Gained (withdrawOf h) (.withdraw h n) s (Machine.addPurpose (.withdraw h n) s) :=
  addPurpose htakes (beq_self_eq_true _) fun b hb => by cases b <;> exact hb

theorem offer {x : Source} {p : Priority} (htakes : takesIn s.control.state (.offer x p) = true) :
    Gained (offerOf x) (.offer x p) s (Machine.addPurpose (.offer x p) s) :=
  addPurpose htakes (beq_self_eq_true _) fun b hb => by cases b <;> exact hb

end Gained

/-- A station that takes in the purposes of its entries (R85). -/
theorem takesIn_of_stays {x : StationState} (hs : x = .member ∨ x = .leaving) :
    (∀ h n, takesIn x (.withdraw h n) = true) ∧ ∀ y p, takesIn x (.offer y p) = true := by
  rcases hs with rfl | rfl <;> exact ⟨fun _ _ => rfl, fun _ _ => rfl⟩

/-! ### The reactions at a line -/

section

variable {n : Line} {h : Handle} {u : State}

/-- A level line in OFFERED that is inactive has its WITHDRAW (R121). -/
theorem checkWithdraw_gains (hs : u.control.state = .member ∨ u.control.state = .leaving)
    (hh : u.origin.lines[n].handle = some h) (hoffered : u.origin.lines[n].state = .offered)
    (hlevel : u.origin.lines[n].mode.isLevel = true) (hactive : lineActive u n = false) :
    Gained (withdrawOf h) (.withdraw h n) u (checkWithdraw n u) := by
  have heq : checkWithdraw n u = addPurpose (.withdraw h n) u := by
    unfold checkWithdraw
    dsimp only
    rw [hh]
    exact if_pos ⟨hoffered, hlevel, hactive⟩
  rw [heq]
  exact .withdraw ((takesIn_of_stays hs).1 h n)

/-- A line put into WANT at a member has its OFFER (R119). -/
theorem lineWants_gains (hs : u.control.state = .member) :
    Gained (offerOf (.line n)) (.offer (.line n) u.origin.lines[n].priority) u (lineWants n u) := by
  unfold lineWants
  refine Gained.of_agenda (Gained.offer ?_) ?_
  · rw [(changeLine_frame n _ _).2.2.2.2.1, hs]
    rfl
  · rw [(changeLine_frame n _ _).2.2.2.1]

theorem lineWants_line (n : Line) (u : State) :
    (lineWants n u).origin.lines[n] = { u.origin.lines[n] with state := .want } := by
  unfold lineWants
  rw [(addPurpose_frame _ _).2.2.2.2.1, changeLine_lines, if_pos rfl]

/-- The line as a reaction that ends with the line evaluated leaves it. -/
theorem evaluateLine_after {f : LineRecord → LineRecord} (hmode : ∀ l, (f l).mode = l.mode)
    (hidle : (f u.origin.lines[n]).state = .idle) :
    (evaluateLine n (changeLine n f u)).origin.lines[n] = { f u.origin.lines[n] with
        state := if u.control.state = .member ∧ lineActive u n = true then .want else .idle } ∧
      (u.control.state = .member → lineActive u n = true → Gained (offerOf (.line n))
        (.offer (.line n) (f u.origin.lines[n]).priority) u (evaluateLine n (changeLine n f u))) := by
  have hline : (changeLine n f u).origin.lines[n] = f u.origin.lines[n] := by rw [changeLine_lines, if_pos rfl]
  have hcontrol : (changeLine n f u).control = u.control := (changeLine_frame n f u).2.2.2.2.1
  have hactive : lineActive (changeLine n f u) n = lineActive u n := lineActive_changeLine hmode
  unfold evaluateLine
  rw [hline, hcontrol, hactive]
  by_cases hm : u.control.state = .member ∧ lineActive u n = true
  · rw [if_pos ⟨hidle, hm⟩, if_pos hm]
    refine ⟨?_, fun hs _ => ?_⟩
    · rw [lineWants_line, hline]
    · have hgains := lineWants_gains (n := n) (u := changeLine n f u) (by rw [hcontrol, hs])
      rw [hline] at hgains
      exact hgains.of_agenda (by rw [(changeLine_frame n f u).2.2.2.1])
  · rw [if_neg fun hand => hm hand.2, if_neg hm]
    refine ⟨?_, fun hs ha => absurd ⟨hs, ha⟩ hm⟩
    rw [hline, ← hidle]

theorem level_of_active (h : lineActive u n = true) : u.origin.lines[n].mode.isLevel = true := by
  unfold lineActive at h
  cases hm : u.origin.lines[n].mode <;> rw [hm] at h <;> first | rfl | cases h

/-- Whether a line whose entry was served is re-armed at a member: a level line that is active, an edge line with its
memo (R124). -/
def lineRearms (l : LineRecord) (active : Bool) : Bool := if l.mode.isLevel then active else l.memo

/-- A line whose entry was served, re-armed or not (R124). -/
theorem rearmLine_line (n : Line) (u : State) : (rearmLine n u).origin.lines[n] = { u.origin.lines[n] with
      state := if u.control.state = .member ∧ lineRearms u.origin.lines[n] (lineActive u n) = true then .want else .idle
      memo := false, handle := none, timer := none } ∧
    (u.control.state = .member → lineRearms u.origin.lines[n] (lineActive u n) = true →
      Gained (offerOf (.line n)) (.offer (.line n) u.origin.lines[n].priority) u (rearmLine n u)) := by
  unfold rearmLine lineRearms
  dsimp only
  by_cases hlevel : u.origin.lines[n].mode.isLevel = true
  · rw [if_pos hlevel, if_pos hlevel]
    exact evaluateLine_after (n := n) (u := u)
      (f := fun l => { l with state := .idle, memo := false, handle := none, timer := none }) (fun _ => rfl) rfl
  rw [if_neg hlevel, if_neg hlevel]
  by_cases hrearms : u.control.state = .member ∧ u.origin.lines[n].memo = true
  · rw [if_pos (by rw [hrearms.1, hrearms.2]; rfl), if_pos hrearms]
    have hline : (changeLine n (fun l => { l with state := .idle, memo := false, handle := none, timer := none })
        u).origin.lines[n] = { u.origin.lines[n] with state := .idle, memo := false, handle := none, timer := none } := by
      rw [changeLine_lines, if_pos rfl]
    refine ⟨?_, fun hs _ => ?_⟩
    · rw [lineWants_line, hline]
    · have hgains := lineWants_gains (n := n) (u := changeLine n
        (fun l => { l with state := .idle, memo := false, handle := none, timer := none }) u)
        (by rw [(changeLine_frame n _ u).2.2.2.2.1, hs])
      rw [hline] at hgains
      exact hgains.of_agenda (by rw [(changeLine_frame n _ u).2.2.2.1])
  · rw [if_neg (by rwa [Bool.and_eq_true, beq_iff_eq, and_comm]), if_neg hrearms]
    refine ⟨?_, fun hs hm => absurd ⟨hs, hm⟩ hrearms⟩
    rw [changeLine_lines, if_pos rfl]

/-- The only line with a handle is its holder. -/
theorem holderOf_of_line (hh : u.origin.lines[n].handle = some h)
    (hothers : ∀ m : Line, m ≠ n → u.origin.lines[m].handle ≠ some h) : holderOf u h = some (.line n) := by
  unfold holderOf
  cases hf : (List.finRange 16).find? (fun m => u.origin.lines[m].handle == some h) with
  | none =>
    have hno := List.find?_eq_none.mp hf n (List.mem_finRange n)
    rw [hh, beq_self_eq_true] at hno
    exact absurd rfl hno
  | some m =>
    have hm : u.origin.lines[m].handle = some h :=
      beq_iff_eq.mp (List.find?_some (p := fun m : Line => u.origin.lines[m].handle == some h) hf)
    by_cases he : m = n
    · rw [he]
    · exact absurd hm (hothers m he)

/-- The only record with a handle, a raise, is its holder. -/
theorem holderOf_of_raise {x : RaiseRecord} (hx : x ∈ u.origin.raises) (hh : x.handle = some h)
    (hlines : ∀ m : Line, u.origin.lines[m].handle ≠ some h)
    (hothers : ∀ y ∈ u.origin.raises, y.handle = some h → y.id = x.id) : holderOf u h = some (.raise x.id) := by
  unfold holderOf
  have hl : (List.finRange 16).find? (fun m => u.origin.lines[m].handle == some h) = none :=
    List.find?_eq_none.mpr fun m _ hm => hlines m (beq_iff_eq.mp hm)
  rw [hl]
  cases hf : u.origin.raises.find? (fun r => r.handle == some h) with
  | none =>
    have hno := List.find?_eq_none.mp hf x hx
    rw [hh, beq_self_eq_true] at hno
    exact absurd rfl hno
  | some y =>
    have hy : y.handle = some h := beq_iff_eq.mp (List.find?_some (p := fun r : RaiseRecord => r.handle == some h) hf)
    rw [← hothers y (List.mem_of_find?_eq_some hf) hy]
    rfl

end

/-! ### The report around one line -/

/-- A creation stands alone among lines of departures (R65). -/
theorem eq_of_created {me : Station} {x : Seen} {r : Record} {c d : EntryChange} (hc : c ∈ (judge me x r).changes)
    (hb : c.became = .created) (hd : d ∈ (judge me x r).changes) : d.became.byDeparture = true ∨ d = c := by
  have hnot : ¬c.became.byDeparture = true := by
    rw [hb]
    exact Bool.false_ne_true
  rcases judge_applied_cases me x r with ⟨f, -, -, -, -, hchanges⟩ | ⟨-, hall⟩
  · rw [applyBody_changes] at hchanges
    rw [hchanges] at hc hd
    have hc := (List.mem_append.mp hc).resolve_left fun hin => hnot (afterAbstentions_byDeparture r x.fields c hin)
    rcases List.mem_append.mp hd with hd | hd
    · exact .inl (afterAbstentions_byDeparture r x.fields d hd)
    · refine .inr ?_
      cases hbody : f.body <;> rw [hbody] at hc hd <;> simp only [bodyChanges] at hc hd
      case offer => rw [List.mem_singleton.mp hc, List.mem_singleton.mp hd]
      case claim h | done h | withdraw h =>
        obtain ⟨e, -, rfl⟩ := by simpa using hc
        cases hb
      case revoke h =>
        obtain ⟨e, -, rfl⟩ := by simpa using hc
        dsimp only at hb
        split at hb <;> cases hb
      case leave => exact absurd (departChanges_byDeparture hc) hnot
      all_goals exact absurd hc List.not_mem_nil
  · exact absurd (hall c hc) hnot

/-- The handle of a line of a report, as `changesOf` reads it. -/
theorem handle_eq_iff {c : EntryChange} {h : Handle} :
    (c.entry.slot == h.slot && c.entry.tag == h.tag) = true ↔ c.handle = h := by
  obtain ⟨k, q⟩ := h
  simp [EntryChange.handle]

theorem changesOf_nil {j : Judgement} {h : Handle} (hnil : changesOf j h = []) : ∀ c ∈ j.changes, c.handle ≠ h :=
  fun c hc he => List.filter_eq_nil_iff.mp hnil c hc (handle_eq_iff.mpr he)

/-- The one line about a handle, with what stands before and after it. -/
theorem changesOf_single {j : Judgement} {h : Handle} {x : EntryChange} (hx : changesOf j h = [x]) :
    ∃ before after, j.changes = before ++ x :: after ∧ x.handle = h ∧ (∀ c ∈ before, c.handle ≠ h) ∧
      ∀ c ∈ after, c.handle ≠ h := by
  obtain ⟨before, after, heq, hbefore, hp, hafter⟩ := List.filter_eq_cons_iff.mp hx
  exact ⟨before, after, heq, handle_eq_iff.mp hp, fun c hc he => hbefore c hc (handle_eq_iff.mpr he),
    fun c hc he => List.filter_eq_nil_iff.mp hafter c hc (handle_eq_iff.mpr he)⟩

end Sys2Proof.Machine
end


section
/-! What the report of a judgement makes of the line and raise records, at a station that stays MEMBER or LEAVING
(R120 to R128, R131, R132, R134). -/

set_option Elab.async false

namespace Sys2Proof.Machine

/-- The station as the claim unit has taken the report (R140, R144, R145). -/
def claimedBy (s : State) (a : Attempt) (c : Instr) (r : Record) : State :=
  claimReacts a.driven.isSome (judgementOf s a c r).record (judgementOf s a c r).changes (countedBy s a c r)

/-- This station's sent purpose, where it was the sender. -/
def sentBy (s : State) (a : Attempt) : Option Sent := if a.driven.isSome then s.agenda.sent else none

/-- The station stays MEMBER with its copy undiverged, or stays in LEAVING. -/
def StaysOn (s : State) (a : Attempt) (c : Instr) (r : Record) : Prop :=
  s.control.state = .member ∧ (judgementOf s a c r).diverged = false ∨
    s.control.state = .leaving ∧ (attemptEnds (responsesOf a c) a s).control.state = .leaving

/-- The purposes that follow the copy, the claim unit and the idle timer. -/
def followsCopy : Aim → Bool
  | .duty | .claim | .beacon => true
  | _ => false

/-- A count brings no purpose of a new aim. -/
theorem countSent_aims {took : Bool} {u : State} {p : Purpose} (hp : p ∈ (countSent took u).agenda.purposes) :
    ∃ q ∈ u.agenda.purposes, q.aim = p.aim := by
  have hkind : ∀ q, (countFailure u q).aim = q.aim := fun q => by
    rw [countFailure_eq]
    split <;> rfl
  unfold countSent dropSent at hp
  split at hp
  · exact ⟨p, hp, rfl⟩
  · dsimp only at hp
    split at hp
    · exact ⟨p, (List.mem_filter.mp hp).1, rfl⟩
    · obtain ⟨q, hq, rfl⟩ := List.mem_map.mp hp
      refine ⟨q, hq, ?_⟩
      split
      · rw [hkind]
      · rfl

section

variable {s : State} {a : Attempt} {c : Instr} {r : Record}

theorem originReacted_eq (s : State) (a : Attempt) (c : Instr) (r : Record) :
    originReacted s a c r = (judgementOf s a c r).changes.foldl (originReacts (sentBy s a)) (claimedBy s a c r) := rfl

theorem countedBy_frame (s : State) (a : Attempt) (c : Instr) (r : Record) :
    (countedBy s a c r).number = s.number ∧ (countedBy s a c r).control = s.control ∧
      (countedBy s a c r).origin = s.origin := by
  obtain ⟨hnumber, hcontrol, horigin, -⟩ := placedBy_frame s a c r
  unfold countedBy
  split
  · obtain ⟨h1, -, -, h4, h5, -⟩ := countSent_frame (judgementOf s a c r).took (placedBy s a c r)
    exact ⟨h1.trans hnumber, h4.trans hcontrol, h5.trans horigin⟩
  · exact ⟨hnumber, hcontrol, horigin⟩

theorem claimedBy_frame (s : State) (a : Attempt) (c : Instr) (r : Record) :
    (claimedBy s a c r).number = s.number ∧ (claimedBy s a c r).control = s.control ∧
      (claimedBy s a c r).origin = s.origin := by
  obtain ⟨hnumber, hcontrol, horigin⟩ := countedBy_frame s a c r
  unfold claimedBy
  exact ⟨by simp [hnumber], by simp [hcontrol], by simp [horigin]⟩

/-- The base the origin unit's reactions start from follows the station. -/
theorem claimedBy_reacts (s : State) (a : Attempt) (c : Instr) (r : Record) :
    Reacts ((attemptPast (ended a c) s).setRecord (some (judgementOf s a c r).record)) (claimedBy s a c r) := by
  have hcount : Reacts (placedBy s a c r) (countedBy s a c r) := by
    unfold countedBy
    split
    · exact .countSent _ _
    · exact .refl _
  exact (((Reacts.postDepartures _ _).trans (.postOwnPlace _ _ _)).trans hcount).trans (.claimReacts _ _ _ _)

theorem claimedBy_absent {which : Aim → Bool} (h : holdsAim which s = false) :
    holdsAim which (claimedBy s a c r) = false := by
  have hsame : (claimedBy s a c r).agenda = (countedBy s a c r).agenda := by
    unfold claimedBy
    simp
  refine List.any_eq_false.mpr fun p hp hw => ?_
  rw [hsame] at hp
  have hplaced : ∃ q ∈ (placedBy s a c r).agenda.purposes, q.aim = p.aim := by
    unfold countedBy at hp
    split at hp
    · exact countSent_aims hp
    · exact ⟨p, hp, rfl⟩
  obtain ⟨q, hq, haim⟩ := hplaced
  rw [(placedBy_frame s a c r).2.2.2.2.2.1] at hq
  exact List.any_eq_false.mp h q hq (by rw [haim]; exact hw)

theorem settledBy_of_stays (hr : s.record = some r) (hown : (judgementOf s a c r).own = none)
    (hstay : StaysOn s a c r) : settledBy s a c r = reactedTo s a c r := by
  have hs : s.judging := hstay.elim (fun h => .inr (.inl h.1)) fun h => .inr (.inr h.1)
  have hsettled : (settledBy s a c r).control.state ≠ .departing := by
    rw [← attemptMade_state hs hr hown, ← (attemptEnds_blocks s a c).2.2.1]
    rcases hstay with ⟨hm, hd⟩ | ⟨-, hl⟩
    · rw [Proofs.attemptEnds_member hm hr hown hd]
      decide
    · rw [hl]
      decide
  unfold settledBy at hsettled ⊢
  rcases settleState_cases (reactedTo s a c r) (judgementOf s a c r).diverged (lostBy s a c r)
    ((spentBy s a c r).any (fun p => p.aim == .leave)) (closedBy s a c r) with
    ⟨-, k, heq, -⟩ | ⟨-, ⟨-, hsync, heq⟩ | ⟨-, heq⟩⟩ <;> rw [heq] at hsettled ⊢
  · rw [enterDeparting_control] at hsettled
    exact absurd rfl hsettled
  · rw [reactedTo_control] at hsync
    rcases hstay with ⟨h, -⟩ | ⟨h, -⟩ <;> rw [h] at hsync <;> cases hsync

/-- After the origin unit nothing moves its records, and only purposes of other units come and go. -/
theorem attemptEnds_of_stays (hr : s.record = some r) (hown : (judgementOf s a c r).own = none)
    (hstay : StaysOn s a c r) : let t := attemptEnds (responsesOf a c) a s
    t.origin = (originReacted s a c r).origin ∧
      t.port.completions = (originReacted s a c r).port.completions ∧
      Edits followsCopy followsCopy (originReacted s a c r) t := by
  have hs : s.judging := hstay.elim (fun h => .inr (.inl h.1)) fun h => .inr (.inr h.1)
  obtain ⟨-, -, -, horigin, -, -, hagenda, hport⟩ := attemptEnds_blocks s a c
  have hmade : attemptMade a c s = updateWant (updateDuty (reactedTo s a c r)) := by
    rw [attemptMade_stays hs hr hown, settledBy_of_stays hr hown hstay]
  obtain ⟨-, -, -, -, hduty, -, hdutyport⟩ := updateDutyWant_frame (reactedTo s a c r)
  intro t
  refine ⟨?_, ?_, ?_⟩
  · rw [show t.origin = _ from horigin, hmade, hduty, reactedTo_eq]
    simp
  · rw [show t.port = _ from hport, postDuplicate_port, hmade, hdutyport, reactedTo_eq,
      (updateBeacon_frame _ _ _).2.2.2.2.2.2.1, postRetryLimit_completions]
  · refine Edits.trans (t := attemptMade a c s) ?_ (.of_agenda (by rw [hagenda]) (by rw [hagenda]))
    rw [hmade, reactedTo_eq]
    refine Edits.trans ?_ ((Edits.updateDuty rfl rfl _).trans (.updateWant rfl rfl _))
    unfold updateBeacon
    split
    · exact .of_agenda (by simp) (by simp)
    · refine (Edits.of_agenda (t := postRetryLimit _ _) (by simp) (by simp)).trans (.dropPurposes (fun aim h => ?_) _)
      rw [beq_iff_eq.mp h]
      rfl

theorem reported_of_originReacted (hs : s.judging) (hr : s.record = some r) (hown : (judgementOf s a c r).own = none)
    {f : FaultRecord} (h : Reported (originReacted s a c r) f) : Reported (attemptEnds (responsesOf a c) a s) f := by
  refine reported_of_reactedTo hs hr hown ?_
  obtain ⟨fs, hfs, -⟩ := postRetryLimit_postsOnly (spentBy s a c r) (originReacted s a c r)
  exact (h.then_posts hfs).then_posts (.none_of_port (by rw [reactedTo_eq]; simp))

end

end Sys2Proof.Machine
end


section
/-! The line that holds a handle, through a judgement that changes the entry of that handle once or not at all
(R121, R123, R124, R126 to R128, R134). -/

set_option Elab.async false

namespace Sys2Proof.Machine

section

variable {s : State} {a : Attempt} {c : Instr} {r : Record} {n : Line} {h : Handle} {e : Entry} {b : Became}

theorem lineActive_congr {u : State} (hlevels : u.origin.levels = s.origin.levels)
    (hline : u.origin.lines[n] = s.origin.lines[n]) : lineActive u n = lineActive s n := by
  unfold lineActive
  rw [hlevels, hline]

/-- The station before the one line about the handle: the line record stands as it did. -/
theorem line_before (hh : s.origin.lines[n].handle = some h)
    (hothers : ∀ m : Line, m ≠ n → s.origin.lines[m].handle ≠ some h)
    (hst : s.origin.lines[n].state = .offered ∨ s.origin.lines[n].state = .served) {before : List EntryChange}
    (hbefore : ∀ x ∈ before, x.handle ≠ h) : let u := before.foldl (originReacts (sentBy s a)) (claimedBy s a c r)
    LineApart n h Aim.isOffer (claimedBy s a c r) u ∧ ∀ m : Line, m ≠ n → u.origin.lines[m].handle ≠ some h := by
  obtain ⟨-, -, horigin⟩ := claimedBy_frame s a c r
  refine ⟨LineApart.foldl (fun x hx => .inl (hbefore x hx)) (fun x hx => ?_) (fun x hx _ => ?_) (fun x hx _ aim haim => haim),
    fun m hm hmh => ?_⟩
  · rw [horigin, hh]
    exact fun he => hbefore x hx (Option.some.inj he).symm
  · rw [horigin]
    rcases hst with hst | hst <;> rw [hst] <;> exact ⟨nofun, nofun⟩
  · have hs := (originReacts_holders hbefore (claimedBy s a c r)).1 m hmh
    rw [horigin] at hs
    exact hothers m hm hs

/-- The report split at the one line about the handle, which the line record takes up. -/
theorem line_event (hr : s.record = some r) (hown : (judgementOf s a c r).own = none) (hstay : StaysOn s a c r)
    (hh : s.origin.lines[n].handle = some h) (hothers : ∀ m : Line, m ≠ n → s.origin.lines[m].handle ≠ some h)
    (hst : s.origin.lines[n].state = .offered ∨ s.origin.lines[n].state = .served) (ho : e.origin = s.number)
    (horphan : e.orphan = false) (hx : changesOf (judgementOf s a c r) h = [⟨e, b⟩]) (hb : b ≠ .created) :
    ∃ u, u.origin.lines[n] = s.origin.lines[n] ∧ lineActive u n = lineActive s n ∧
      u.control.state = s.control.state ∧ u.port.clock = s.port.clock ∧
      u.record = some (judgementOf s a c r).record ∧
      (holdsAim (withdrawOf h) s = false → holdsAim (withdrawOf h) u = false) ∧
      (holdsAim (offerOf (.line n)) s = false → holdsAim (offerOf (.line n)) u = false) ∧
      ∀ drops, let v := entryReaction b (.line n) h u
        v.origin.lines[n].handle = some h ∨ v.origin.lines[n].handle = none →
        ((∃ x ∈ (judgementOf s a c r).changes, x.became = .created) →
          (v.origin.lines[n].state ≠ .want ∧ v.origin.lines[n].state ≠ .idle) ∧
            ∀ aim, Aim.isOffer aim = true → drops aim = true) →
        (attemptEnds (responsesOf a c) a s).origin.lines[n] = v.origin.lines[n] ∧
          Edits drops (fun aim => !withdrawOf h aim && !offerOf (.line n) aim) v (originReacted s a c r) ∧
          ∀ f, Reported v f → Reported (attemptEnds (responsesOf a c) a s) f := by
  obtain ⟨before, after, heq, hhandle, hbefore, hafter⟩ := changesOf_single hx
  obtain ⟨hnumber, hcontrol, horigin⟩ := claimedBy_frame s a c r
  obtain ⟨hapart, hfree⟩ := line_before (a := a) (c := c) (r := r) hh hothers hst hbefore
  generalize hu : before.foldl (originReacts (sentBy s a)) (claimedBy s a c r) = u at hapart hfree
  have hline : u.origin.lines[n] = s.origin.lines[n] := hapart.line.trans (by rw [horigin])
  have hreaction : originReacts (sentBy s a) u ⟨e, b⟩ = entryReaction b (.line n) h u := by
    rw [originReacts_held hb, hhandle, holderOf_of_line (by rw [hline, hh]) hfree]
    exact if_pos ⟨ho.trans (hapart.reacts.host.number.trans hnumber).symm, horphan⟩
  have hsplit : originReacted s a c r = after.foldl (originReacts (sentBy s a)) (entryReaction b (.line n) h u) := by
    rw [originReacted_eq, heq, List.foldl_append, List.foldl_cons, hu, hreaction]
  have hreacts := (claimedBy_reacts s a c r).trans hapart.reacts
  refine ⟨u, hline, ?_, ?_, hreacts.host.clock, hreacts.record, fun hs => ?_, fun hs => ?_, ?_⟩
  · exact lineActive_congr (hapart.levels.trans (by rw [horigin])) hline
  · rw [hapart.reacts.control, hcontrol]
  · exact hapart.edits.keeps_absent (fun aim haim => by rw [haim]; rfl) (claimedBy_absent hs)
  · exact hapart.edits.keeps_absent (fun aim haim => by rw [haim, Bool.not_true, Bool.and_false]) (claimedBy_absent hs)
  · intro drops v hv hcreated
    have hin : ∀ x ∈ after, x ∈ (judgementOf s a c r).changes := fun x hx => by
      rw [heq]
      exact List.mem_append_right _ (List.mem_cons_of_mem _ hx)
    have hlater : LineApart n h drops v (after.foldl (originReacts (sentBy s a)) v) := by
      refine LineApart.foldl (fun x hx => .inl (hafter x hx)) (fun x hx he => ?_)
        (fun x hx htakes => (hcreated ⟨x, hin x hx, htakes.1⟩).1) (fun x hx hxb => (hcreated ⟨x, hin x hx, hxb⟩).2)
      rcases hv with hv | hv <;> rw [hv] at he
      · exact hafter x hx (Option.some.inj he).symm
      · cases he
    have hsame : originReacted s a c r = after.foldl (originReacts (sentBy s a)) v := hsplit
    refine ⟨?_, ?_, fun f hf => ?_⟩
    · rw [(attemptEnds_of_stays hr hown hstay).1, hsame, hlater.line]
    · rw [hsame]
      exact hlater.edits
    · have hs : s.judging := hstay.elim (fun h => .inr (.inl h.1)) fun h => .inr (.inr h.1)
      obtain ⟨fs, hfs, -⟩ := PostsOnly.foldl (s := v) (originReacts_postsOnly (sentBy s a)) after
      exact reported_of_originReacted hs hr hown (hsame ▸ hf.then_posts hfs)

/-- A line of the report that removes an entry leaves no creation beside it. -/
theorem no_creation (hx : changesOf (judgementOf s a c r) h = [⟨e, b⟩]) (hb : b ≠ .created)
    (hd : b.byDeparture = false) : ¬∃ x ∈ (judgementOf s a c r).changes, x.became = .created := by
  rintro ⟨x, hmem, hxb⟩
  have hin : (⟨e, b⟩ : EntryChange) ∈ (judgementOf s a c r).changes := by
    have : (⟨e, b⟩ : EntryChange) ∈ changesOf (judgementOf s a c r) h := by rw [hx]; exact List.mem_cons_self
    exact (List.mem_filter.mp this).1
  rw [judgementOf_eq] at hmem hin
  rcases eq_of_created hmem hxb hin with hdep | rfl
  · exact absurd hdep (by rw [hd]; exact Bool.false_ne_true)
  · exact hb hxb

theorem withdrawOf_keeps {aim : Aim} (h' : withdrawOf h aim = true) : followsCopy aim = false ∧ Aim.isOffer aim = false := by
  cases aim <;> first | exact ⟨rfl, rfl⟩ | cases h'

theorem offerOf_keeps {aim : Aim} {x : Source} (h' : offerOf x aim = true) : followsCopy aim = false := by
  cases aim <;> first | rfl | cases h'

end

end Sys2Proof.Machine

namespace Sys2Proof.Proofs

open Sys2Proof.Machine

/-- Settles O55: the one line about the handle, between lines that leave the line record alone. -/
theorem linesFollowTheirEntries : Obligations.LinesFollowTheirEntries := by
  intro s a c r n h e hend hr hs hordered l j hh hothers hst he hslot htag ho horphan hown hdiv level active withdrawn
    offered member
  refine ⟨attemptEnds (responsesOf a c) a s, hend.exec, fun hleaving => ?_⟩
  have hstay : StaysOn s a c r := hs.elim (fun hm => .inl ⟨hm, hdiv⟩) fun hl => .inr ⟨hl, hleaving hl⟩
  obtain ⟨horigin, -, hedits⟩ := attemptEnds_of_stays hr hown hstay
  have hlevel : l.mode.isLevel = true ↔ level := isLevel_iff l.mode
  refine ⟨fun hnil => ?_, fun b hx => ?_⟩
  · obtain ⟨hapart, -⟩ := line_before (a := a) (c := c) (r := r) hh hothers hst (changesOf_nil hnil)
    rw [horigin, originReacted_eq, hapart.line, (claimedBy_frame s a c r).2.2]
  have hevent := fun hb => line_event (b := b) hr hown hstay hh hothers hst ho horphan hx hb
  refine ⟨fun x hb => ?_, fun hb => ?_, fun hb => ?_, fun hb => ?_, fun hb => ?_⟩
  · subst hb
    obtain ⟨u, hline, -, -, -, -, -, -, hafter⟩ := hevent nofun
    have hv : (entryReaction (.claimed x) (.line n) h u).origin.lines[n] = { l with
        state := .served, timer := if l.timeout = 0 then none else some (l.timeout * 1000) } := by
      change (changeLine n _ u).origin.lines[n] = _
      rw [changeLine_lines, if_pos rfl, hline]
      rfl
    refine (hafter Aim.isOffer (.inl (by rw [hv]; exact hh)) fun _ => ⟨?_, fun _ h => h⟩).1.trans hv
    rw [hv]
    exact ⟨nofun, nofun⟩
  · have hb' : b ≠ .created ∧ ∀ u, entryReaction b (.line n) h u = sourceReturned (.line n) u := by
      rcases hb with rfl | ⟨x, rfl⟩ <;> exact ⟨nofun, fun _ => rfl⟩
    obtain ⟨u, hline, hactive, hstate, -, -, habsent, -, hafter⟩ := hevent hb'.1
    rw [hb'.2 u] at hafter
    have hw : (changeLine n (fun l => { l with state := .offered, timer := none }) u).origin.lines[n] =
        { l with state := .offered, timer := none } := by rw [changeLine_lines, if_pos rfl, hline]
    have hv : (sourceReturned (.line n) u).origin.lines[n] = { l with state := .offered, timer := none } := by
      change (checkWithdraw n _).origin.lines[n] = _
      rw [(checkWithdraw_frame n _).2.2.2.2.1]
      exact hw
    obtain ⟨htline, htedits, -⟩ := hafter Aim.isOffer (.inl (by rw [hv]; exact hh)) fun _ =>
      ⟨by rw [hv]; exact ⟨nofun, nofun⟩, fun _ h => h⟩
    refine ⟨htline.trans hv, fun hlev hinactive => ?_⟩
    have hgains : Gained (withdrawOf h) (.withdraw h n) u (sourceReturned (.line n) u) := by
      refine Gained.of_agenda (checkWithdraw_gains ?_ (by rw [hw]; exact hh) (by rw [hw])
        (by rw [hw]; exact hlevel.mpr hlev) ?_) (by rw [(changeLine_frame n _ u).2.2.2.1])
      · rw [(changeLine_frame n _ u).2.2.2.2.1, hstate]
        exact hs
      · refine (lineActive_changeLine (n := n) (m := n) (s := u) ?_).trans (hactive.trans (Bool.eq_false_iff.mpr hinactive))
        exact fun _ => rfl
    exact ((hgains.before habsent).after (beq_self_eq_true _) htedits fun aim haim => (withdrawOf_keeps haim).2).after
      (beq_self_eq_true _) hedits fun aim haim => (withdrawOf_keeps haim).1
  · subst hb
    obtain ⟨u, hline, hactive, hstate, -, -, -, habsent, hafter⟩ := hevent nofun
    obtain ⟨hv, hgains⟩ := rearmLine_line n u
    rw [hline, hactive, hstate] at hv hgains
    have hrearms : lineRearms l (lineActive s n) = true ↔ (level ∧ active ∨ ¬level ∧ l.memo = true) := by
      unfold lineRearms
      rw [← hlevel]
      by_cases hlev : l.mode.isLevel = true
      · simp [hlev, active]
      · simp [hlev]
    obtain ⟨htline, htedits, -⟩ := hafter noAim (.inr (by
      change (rearmLine n u).origin.lines[n].handle = none
      rw [hv])) fun hcreated => absurd hcreated (no_creation hx nofun rfl)
    intro rearmed
    refine ⟨htline.trans (hv.trans ?_), fun hre => ?_⟩
    · by_cases hre : rearmed
      · rw [if_pos ⟨hre.1, hrearms.mpr hre.2⟩, if_pos hre]
      · rw [if_neg fun hand => hre ⟨hand.1, hrearms.mp hand.2⟩, if_neg hre]
    · exact ((((hgains hre.1 (hrearms.mpr hre.2)).before habsent).after (beq_self_eq_true _) htedits fun _ _ => rfl).after
        (beq_self_eq_true _) hedits fun aim haim => offerOf_keeps haim)
  · subst hb
    obtain ⟨u, hline, hactive, hstate, -, -, -, habsent, hafter⟩ := hevent nofun
    obtain ⟨hv, hgains⟩ := evaluateLine_after (n := n) (u := u)
      (f := fun l => { l with state := .idle, handle := none, timer := none }) (fun _ => rfl) rfl
    rw [hline, hactive, hstate] at hv hgains
    have hlev : active → level := fun ha => hlevel.mp (level_of_active ha)
    obtain ⟨htline, htedits, -⟩ := hafter noAim (.inr (by
      change (evaluateLine n _).origin.lines[n].handle = none
      rw [hv])) fun hcreated => absurd hcreated (no_creation hx nofun rfl)
    intro rearmed
    refine ⟨htline.trans (hv.trans ?_), fun hre => ?_⟩
    · by_cases hre : rearmed
      · rw [if_pos ⟨hre.1, hre.2.2⟩, if_pos hre]
      · rw [if_neg fun hand => hre ⟨hand.1, hlev hand.2, hand.2⟩, if_neg hre]
    · exact ((((hgains hre.1 hre.2.2).before habsent).after (beq_self_eq_true _) htedits fun _ _ => rfl).after
        (beq_self_eq_true _) hedits fun aim haim => offerOf_keeps haim)
  · subst hb
    obtain ⟨u, hline, -, -, hclock, hrecord, -, -, hafter⟩ := hevent nofun
    have hv : (entryReaction .removedByRevoke (.line n) h u).origin.lines[n] =
        { l with state := .holdoff, memo := false, handle := none, timer := none } := by
      change (postFault _ _ _ _ _ (changeLine n _ u)).origin.lines[n] = _
      rw [(postFault_frame _ _ _ _ _ _).2.2.2.2.2.1, changeLine_lines, if_pos rfl, hline]
    obtain ⟨htline, -, hreported⟩ := hafter noAim (.inr (by rw [hv])) fun hcreated =>
      absurd hcreated (no_creation hx nofun rfl)
    refine ⟨htline.trans hv, hreported _ ?_⟩
    have hpost := Posts.postFault .serviceFailed none (some h.slot) (some n) none (changeLine n
      (fun l => { l with state := .holdoff, memo := false, handle := none, timer := none }) u)
    have hfault := hpost.reported List.mem_cons_self
    unfold faultOf at hfault
    rw [(changeLine_frame n _ u).2.2.2.2.2.2.1, (changeLine_frame n _ u).2.2.1, hclock, hrecord] at hfault
    exact hfault

end Sys2Proof.Proofs
end


section
/-! The take of an own OFFER, and the raise that holds a handle through a judgement (R65, R90, R120, R123, R126, R128,
R131, R132). -/

set_option Elab.async false

namespace Sys2Proof.Machine

/-! ### The report of an OFFER that is applied -/

/-- An entry a departure returned to its origin stays in its slot while the origin stays (R80). -/
def ReturnedStay (n : Station) (t : Tally) : Prop :=
  ∀ c ∈ t.changes, ∀ y, c.became = .returnedByDeparture y → c.entry.origin = n → c.entry.orphan = false →
    ∃ e ∈ t.record.entries, e.slot = c.entry.slot ∧ e.origin = n ∧ e.orphan = false ∧ e.claimant = none

/-- The line of a returned entry, with the entry it leaves in the slot. -/
theorem departChanges_returned {x y n : Station} {r : Record} {c : EntryChange} (hx : x ≠ n)
    (hc : c ∈ departChanges x r) (hb : c.became = .returnedByDeparture y) (ho : c.entry.origin = n)
    (horphan : c.entry.orphan = false) :
    ∃ e ∈ (departEffects x r).entries, e.slot = c.entry.slot ∧ e.origin = n ∧ e.orphan = false ∧ e.claimant = none := by
  rcases List.mem_append.mp hc with hc | hc
  · obtain ⟨e, he, hchange⟩ := List.mem_filterMap.mp hc
    unfold claimantSideChange at hchange
    split at hchange
    · rename_i hclaim
      split at hchange
      · rename_i hstay
        cases hchange
        refine ⟨{ e with claimant := none }, ?_, rfl, ho, horphan, rfl⟩
        rw [departEffects_entries]
        refine List.mem_filterMap.mpr ⟨e, he, ?_⟩
        unfold departEntry claimantSide
        rw [if_pos hclaim, if_pos hstay, Option.bind_some]
        unfold originSide
        have hnot : ((e.origin = x) && !e.orphan) = false := by
          rw [show e.origin = n from ho]
          simp [hx.symm]
        rw [if_neg (by simp [hnot])]
      · cases hchange
        cases hb
    · cases hchange
  · obtain ⟨e, -, hchange⟩ := List.mem_filterMap.mp hc
    unfold originSideChange at hchange
    split at hchange
    · split at hchange <;> cases hchange <;> cases hb
    · cases hchange

theorem departOne_returnedStay {k : DepartureCause} {n x : Station} {t : Tally} (h : ReturnedStay n t) (hx : x ≠ n) :
    ReturnedStay n (departOne k t x) := by
  intro c hc y hb ho horphan
  rcases List.mem_append.mp hc with hc | hc
  · obtain ⟨e, he, hslot, heo, heorphan, hclaim⟩ := h c hc y hb ho horphan
    refine ⟨e, ?_, hslot, heo, heorphan, hclaim⟩
    change e ∈ (departEffects x t.record).entries
    rw [departEffects_entries]
    refine List.mem_filterMap.mpr ⟨e, he, ?_⟩
    rw [departEntry_eq, hclaim, if_neg nofun, if_neg fun hand => hx (hand.1.symm.trans heo)]
  · exact departChanges_returned hx hc hb ho horphan

theorem afterAbstentions_returnedStay {n : Station} {r : Record} {fields : Vector Response 16}
    (hn : n ∉ abstainers r fields) : ReturnedStay n (afterAbstentions r fields) := by
  have hall : ∀ (l : List Station) (t : Tally), n ∉ l → ReturnedStay n t →
      ReturnedStay n (l.foldl (departOne .abstained) t) := by
    intro l
    induction l with
    | nil => exact fun t _ ht => ht
    | cons x l ih =>
      intro t hl ht
      rw [List.mem_cons, not_or] at hl
      exact ih _ hl.2 (departOne_returnedStay ht (Ne.symm hl.1))
  exact hall _ _ hn fun c hc => absurd hc List.not_mem_nil

section

variable {s : State} {a : Attempt} {c : Instr} {r : Record} {f : Frame} {k : Slot} {code : Code} {prio : Priority}
  {targets : StationSet} {payload : Option Word32}

/-- The report of an own OFFER that was applied: departures, none of which leaves an entry of this station OFFERED in the
slot, and the creation (R64, R65). -/
theorem offer_changes (hw : a.winner = s.number) (hd : a.driven = some f)
    (hb : f.body = .offer k code prio targets payload) (happ : (judgementOf s a c r).applied = true)
    (hown : (judgementOf s a c r).own = none) :
    ∃ left, (judgementOf s a c r).changes = left ++
        [⟨offeredEntry s.number f.seq k code prio targets payload, .created⟩] ∧
      ∀ x ∈ left, x.became.byDeparture = true ∧ (x.handle ≠ ⟨k, f.seq⟩ ∨ x.inert s.number) := by
  rw [judgementOf_eq] at happ hown ⊢
  have hme : s.number ∉ abstainers r (seenAs s a c).fields := not_mem_abstainers_of_stays hown
  rcases judge_applied_cases s.number (seenAs s a c) r with ⟨g, hg, hok, -, -, hchanges⟩ | ⟨hno, -⟩
  · have hfg : g = f := by
      have hframe : (seenAs s a c).frame = some f := by
        unfold seenAs seenOf
        rw [show (ended a c).driven = some f from hd]
      exact Option.some.inj (hg.symm.trans hframe)
    subst hfg
    rw [hb] at hok
    rw [applyBody_changes, hb] at hchanges
    refine ⟨(afterAbstentions r (seenAs s a c).fields).changes, ?_, fun x hx => ⟨afterAbstentions_byDeparture _ _ x hx, ?_⟩⟩
    · refine hchanges.trans ?_
      rw [bodyChanges, show (seenAs s a c).winner = s.number from hw]
    · by_cases hinert : x.inert s.number
      · exact .inr hinert
      · refine .inl fun hhandle => ?_
        unfold EntryChange.inert at hinert
        push Not at hinert
        obtain ⟨ho, horphan, h1, h2, h3⟩ := hinert
        have hdep := afterAbstentions_byDeparture r (seenAs s a c).fields x hx
        cases hxb : x.became with
        | returnedByDeparture y =>
          obtain ⟨e, he, hslot, -⟩ := afterAbstentions_returnedStay hme x hx y hxb ho (Bool.eq_false_iff.mpr horphan)
          have hfree := (offerOk_iff.mp hok).2.1 e he
          exact hfree (hslot.trans (congrArg Handle.slot hhandle))
        | removedByClaimantDeparture y => exact h1 y hxb
        | removedByOriginDeparture y => exact h2 y hxb
        | orphaned y => exact h3 y hxb
        | created | claimed _ | returnedByRevoke | removedByDone | removedByWithdraw | removedByRevoke =>
          rw [hxb] at hdep
          cases hdep
  · rw [show judge s.number (seenOf s.number (ended a c)) r = judge s.number (seenAs s a c) r from rfl, hno] at happ
    cases happ

/-- A line whose OFFER was taken (R120, R121). -/
theorem sourceOffered_line {n : Line} {h : Handle} {u : State} (hs : u.control.state = .member ∨ u.control.state = .leaving)
    (hst : u.origin.lines[n].state = .want ∨ u.origin.lines[n].state = .idle) :
    let v := sourceOffered (.line n) h u
    v.origin.lines[n] = { u.origin.lines[n] with state := .offered, handle := some h } ∧
      holdsAim (offerOf (.line n)) v = false ∧
      (u.origin.lines[n].mode.isLevel = true → lineActive u n = false →
        Gained (withdrawOf h) (.withdraw h n) u v) := by
  intro v
  have hv : v = checkWithdraw n (dropPurposes (Aim.isOfferOf (.line n))
      (changeLine n (fun l => { l with state := .offered, handle := some h }) u)) := if_pos hst
  generalize hw : dropPurposes (Aim.isOfferOf (.line n))
    (changeLine n (fun l => { l with state := .offered, handle := some h }) u) = w at hv
  have hworigin : w.origin = (changeLine n (fun l => { l with state := .offered, handle := some h }) u).origin := by
    rw [← hw, (dropPurposes_frame _ _).2.2.2.2.1]
  have hwline : w.origin.lines[n] = { u.origin.lines[n] with state := .offered, handle := some h } := by
    rw [hworigin, changeLine_lines, if_pos rfl]
  refine ⟨?_, ?_, fun hlevel hactive => ?_⟩
  · rw [hv, (checkWithdraw_frame n w).2.2.2.2.1, hwline]
  · have hedits : Edits noAim (withdrawOf h) w v := by
      rw [hv]
      refine Edits.checkWithdraw fun g hg => ?_
      rw [hwline] at hg
      obtain rfl : h = g := Option.some.inj hg
      exact beq_self_eq_true _
    refine hedits.keeps_absent (fun aim haim => ?_) (List.any_eq_false.mpr fun p hp hoffer => ?_)
    · cases aim <;> first | rfl | cases haim
    · rw [← hw] at hp
      have hnot := (mem_dropPurposes.mp hp).2
      cases haim : p.aim <;> rw [haim] at hoffer hnot <;> first | cases hoffer | exact Bool.false_ne_true (hnot.symm.trans hoffer)
  · rw [hv]
    have hgains : Gained (withdrawOf h) (.withdraw h n) w (checkWithdraw n w) := by
      refine checkWithdraw_gains ?_ (by rw [hwline]) (by rw [hwline]) (by rw [hwline]; exact hlevel) ?_
      · rw [← hw, (dropPurposes_frame _ _).2.2.2.1, (changeLine_frame n _ u).2.2.2.2.1]
        exact hs
      · have hsame : lineActive w n =
            lineActive (changeLine n (fun l => { l with state := .offered, handle := some h }) u) n := by
          unfold lineActive
          rw [hworigin]
        rw [hsame]
        refine (lineActive_changeLine (n := n) (m := n) (s := u) ?_).trans hactive
        exact fun _ => rfl
    refine hgains.before fun hu => List.any_eq_false.mpr fun p hp hwd => ?_
    rw [← hw] at hp
    have hin := (mem_dropPurposes.mp hp).1
    rw [(changeLine_frame n _ u).2.2.2.1] at hin
    exact List.any_eq_false.mp hu p hin hwd

end

/-! ### The report around one raise -/

section

variable {s : State} {a : Attempt} {c : Instr} {r : Record} {x : RaiseRecord} {h : Handle} {e : Entry} {b : Became}

theorem claimedBy_ids (haccounts : AccountsSound s) :
    ((claimedBy s a c r).origin.raises.map RaiseRecord.id).Nodup := by
  rw [(claimedBy_frame s a c r).2.2]
  exact haccounts.2.2.2.2

theorem not_takesOffer (hsent : ∀ p, ¬s.agenda.sent.any (fun y => y.purpose.aim == .offer (.raise x.id) p) = true)
    (ch : EntryChange) : ¬takesOffer (sentBy s a) (.raise x.id) ch := by
  rintro ⟨-, hoffer⟩
  unfold sentBy at hoffer
  split at hoffer
  · obtain ⟨y, hy, hkind⟩ := Option.bind_eq_some_iff.mp hoffer
    unfold Sent.offerer at hkind
    split at hkind
    · rename_i z p haim
      refine hsent p ?_
      rw [hy, Option.any_some, haim, Option.some.inj hkind]
      exact beq_self_eq_true _
    · cases hkind
  · cases hoffer

/-- The report split at the one line about the handle, which the raise record takes up. -/
theorem raise_event (haccounts : AccountsSound s) (hx : x ∈ s.origin.raises) (hh : x.handle = some h)
    (hlines : ∀ n : Line, s.origin.lines[n].handle ≠ some h)
    (hothers : ∀ y ∈ s.origin.raises, y.handle = some h → y = x)
    (hsent : ∀ p, ¬s.agenda.sent.any (fun y => y.purpose.aim == .offer (.raise x.id) p) = true)
    (ho : e.origin = s.number) (horphan : e.orphan = false)
    (hch : changesOf (judgementOf s a c r) h = [⟨e, b⟩]) (hb : b ≠ .created) :
    ∃ (u : State) (after : List EntryChange), x ∈ u.origin.raises ∧ (u.origin.raises.map RaiseRecord.id).Nodup ∧
      u.port.store.raiseTimeout = s.port.store.raiseTimeout ∧ (∀ y ∈ after, y.handle ≠ h) ∧
      originReacted s a c r = after.foldl (originReacts (sentBy s a)) (entryReaction b (.raise x.id) h u) := by
  obtain ⟨before, after, heq, hhandle, hbefore, hafter⟩ := changesOf_single hch
  obtain ⟨hnumber, -, horigin⟩ := claimedBy_frame s a c r
  have hkept := originReacts_keeps_raise (s := claimedBy s a c r) (cs := before) (claimedBy_ids haccounts)
    (by rw [horigin]; exact hx) (fun y hy he => hbefore y hy (Option.some.inj (hh.symm.trans he)).symm)
    (fun y _ => not_takesOffer (a := a) hsent y)
  obtain ⟨hulines, huraises⟩ := originReacts_holders (sent := sentBy s a) hbefore (claimedBy s a c r)
  have hids := (originReacts_ids (sentBy s a) before (claimedBy s a c r)).nodup (claimedBy_ids haccounts)
  have hreacts := (claimedBy_reacts s a c r).trans (Reacts.originReacts_all (sentBy s a) before _)
  generalize hu : before.foldl (originReacts (sentBy s a)) (claimedBy s a c r) = u at hkept hulines huraises hids hreacts
  rw [horigin] at hulines huraises
  have hreaction : originReacts (sentBy s a) u ⟨e, b⟩ = entryReaction b (.raise x.id) h u := by
    rw [originReacts_held hb, hhandle, holderOf_of_raise hkept hh (fun m hm => hlines m (hulines m hm)) fun y hy hyh => ?_]
    · exact if_pos ⟨ho.trans hreacts.host.number.symm, horphan⟩
    · obtain ⟨y₀, hy₀, hid, hy₀h⟩ := huraises y hy hyh
      rw [← hid, hothers y₀ hy₀ hy₀h]
  refine ⟨u, after, hkept, hids, ?_, hafter, ?_⟩
  · rw [hreacts.host.store]
    rfl
  · rw [originReacted_eq, heq, List.foldl_append, List.foldl_cons, hu, hreaction]

/-- A raise as its one line of the report leaves it stays so, if it keeps its handle. -/
theorem raise_kept {v : State} {after : List EntryChange} {y : RaiseRecord}
    (hsent : ∀ p, ¬s.agenda.sent.any (fun z => z.purpose.aim == .offer (.raise x.id) p) = true)
    (hids : (v.origin.raises.map RaiseRecord.id).Nodup) (hy : y ∈ v.origin.raises) (hid : y.id = x.id)
    (hh : y.handle = some h) (hafter : ∀ z ∈ after, z.handle ≠ h) :
    y ∈ (after.foldl (originReacts (sentBy s a)) v).origin.raises := by
  refine originReacts_keeps_raise hids hy (fun z hz he => ?_) (fun z _ htakes => ?_)
  · exact hafter z hz (Option.some.inj (hh.symm.trans he)).symm
  · rw [hid] at htakes
    exact not_takesOffer hsent z htakes

theorem mem_changeRaise {u : State} {f : RaiseRecord → RaiseRecord} (hx : x ∈ u.origin.raises) :
    f x ∈ (changeRaise x.id f u).origin.raises := by
  rw [changeRaise_origin]
  exact List.mem_map.mpr ⟨x, hx, if_pos rfl⟩

end

end Sys2Proof.Machine

namespace Sys2Proof.Proofs

open Sys2Proof.Machine

/-- Settles O56: the one line about the handle, between lines that leave the raise record alone. -/
theorem raisesFollowTheirEntries : Obligations.RaisesFollowTheirEntries := by
  intro s a c r x h e hend hr hs hordered haccounts j hx hh hlines hothers hqueued hsent he hslot htag ho horphan hown
    hdiv timeout
  refine ⟨attemptEnds (responsesOf a c) a s, hend.exec, fun hleaving => ?_⟩
  have hstay : StaysOn s a c r := hs.elim (fun hm => .inl ⟨hm, hdiv⟩) fun hl => .inr ⟨hl, hleaving hl⟩
  obtain ⟨horigin, hcompletions, -⟩ := attemptEnds_of_stays hr hown hstay
  rw [horigin, hcompletions]
  refine ⟨fun hnil => ?_, fun b hch => ?_⟩
  · rw [originReacted_eq]
    exact raise_kept hsent (claimedBy_ids haccounts) (by rw [(claimedBy_frame s a c r).2.2]; exact hx) rfl hh
      (changesOf_nil hnil)
  have hevent := fun hb => raise_event (a := a) (c := c) (r := r) haccounts hx hh hlines hothers hsent ho horphan hch hb
  have hmoves : ∀ {u : State}, (u.origin.raises.map RaiseRecord.id).Nodup →
      ((entryReaction b (.raise x.id) h u).origin.raises.map RaiseRecord.id).Nodup := fun hids =>
    (OriginMoves.entryReaction b (.raise x.id) _).ids.nodup hids
  refine ⟨fun y hb => ?_, fun hb => ?_, fun hb => ?_, fun hb => ?_⟩
  · obtain ⟨u, after, hxu, hids, htimeout, hafter, heq⟩ := hevent (by rw [hb]; nofun)
    rw [heq]
    refine raise_kept hsent (hmoves hids) ?_ rfl hh hafter
    rw [hb]
    have hsame : raiseTimeout u x = timeout := by
      unfold raiseTimeout
      rw [htimeout]
    have hmem := mem_changeRaise (f := fun r => { r with state := .served, timer := serviceTimer (raiseTimeout u r) }) hxu
    rw [hsame] at hmem
    exact hmem
  · obtain ⟨u, after, hxu, hids, -, hafter, heq⟩ := hevent (by rcases hb with rfl | ⟨y, rfl⟩ <;> nofun)
    rw [heq]
    refine raise_kept hsent (hmoves hids) ?_ rfl hh hafter
    rcases hb with rfl | ⟨y, rfl⟩ <;> exact mem_changeRaise hxu
  · obtain ⟨u, after, hxu, hids, -, hafter, heq⟩ := hevent (by rw [hb]; nofun)
    rw [heq]
    refine raise_kept hsent (hmoves hids) ?_ rfl hh hafter
    rw [hb]
    exact hxu
  · obtain ⟨u, after, hxu, hids, -, hafter, heq⟩ := hevent (by rcases hb with rfl | rfl <;> nofun)
    have hv : entryReaction b (.raise x.id) h u =
        raiseEnds x.id (if b = .removedByDone then .raiseServiced x.id else .raiseDropped x.id) u := by
      rcases hb with rfl | rfl <;> rfl
    rw [heq, hv]
    refine ⟨fun y hy hid => ?_, ?_⟩
    · have hin := (originReacts_ids (sentBy s a) after _).subset (List.mem_map_of_mem hy)
      obtain ⟨z, hz, hzid⟩ := List.mem_map.mp hin
      unfold raiseEnds at hz
      rw [(postCompletions_frame _ _).2.2.2.2.2.1] at hz
      exact (mem_removeRaise.mp hz).2 (hzid.trans hid)
    · obtain ⟨cs, hcs, -⟩ := CompletesOnly.foldl (originReacts_completes (sentBy s a)) after
        (raiseEnds x.id (if b = .removedByDone then .raiseServiced x.id else .raiseDropped x.id) u)
      rw [hcs]
      refine List.mem_append_left _ ?_
      unfold raiseEnds
      rw [postCompletions_port]
      exact List.mem_append_right _ List.mem_cons_self

/-- Settles O54: the departures of the report leave line and raise alone, and the creation is matched to the OFFER. -/
theorem offerTakenGivesTheHandle : Obligations.OfferTakenGivesTheHandle := by
  intro s a c r f q h k code prio prio' targets payload hend hr hs hw hd hb hsent j happ hown
  obtain ⟨left, hchanges, hleft⟩ := offer_changes hw hd hb happ hown
  have hdiv : j.diverged = false := by
    have hj : j = judge s.number (seenAs s a c) r := judgementOf_eq s a c r
    rcases judge_cases s.number (seenAs s a c) r with h0 | ⟨-, -, ht⟩ | ⟨-, -, ht⟩
    · rw [hj, judge_of_none_left h0]
    · rw [hj, ht]
      rfl
    · rw [hj, ht] at happ
      cases happ
  have hnone : ∀ x ∈ left, x.became ≠ .created := fun x hx he => by
    have := (hleft x hx).1
    rw [he] at this
    cases this
  obtain ⟨hnumber, hcontrol, horigin⟩ := claimedBy_frame s a c r
  have hreacts := (claimedBy_reacts s a c r).trans (Reacts.originReacts_all (sentBy s a) left _)
  have hcreated : ∀ x, q.aim = .offer x prio' →
      originReacted s a c r = sourceOffered x ⟨k, f.seq⟩ (left.foldl (originReacts (sentBy s a)) (claimedBy s a c r)) := by
    intro x hq
    have hofferer : (sentBy s a).bind Sent.offerer = some x := by
      unfold sentBy
      rw [hd, Option.isSome_some, if_pos rfl, hsent, Option.bind_some]
      unfold Sent.offerer
      rw [hq]
    rw [originReacted_eq, hchanges, List.foldl_append, List.foldl_cons, List.foldl_nil, originReacts_created rfl, hofferer]
    exact if_pos ⟨hreacts.host.number.symm, rfl⟩
  refine ⟨fun n hq hst hh => ⟨attemptEnds (responsesOf a c) a s, hend.exec, fun hleaving => ?_⟩,
    fun x hx hq haccounts hh => ⟨attemptEnds (responsesOf a c) a s, hend.exec, fun hleaving => ?_⟩⟩
  · have hstay : StaysOn s a c r := hs.elim (fun hm => .inl ⟨hm, hdiv⟩) fun hl => .inr ⟨hl, hleaving hl⟩
    obtain ⟨htorigin, -, hedits⟩ := attemptEnds_of_stays hr hown hstay
    have hapart : LineApart n ⟨k, f.seq⟩ noAim (claimedBy s a c r)
        (left.foldl (originReacts (sentBy s a)) (claimedBy s a c r)) := by
      refine LineApart.foldl (fun x hx => ?_) (fun x _ => ?_) (fun x hx htakes => absurd htakes.1 (hnone x hx))
        (fun x hx hxb => absurd hxb (hnone x hx))
      · rw [hnumber]
        exact (hleft x hx).2
      · rw [horigin, hh]
        nofun
    have heq := hcreated (.line n) hq
    generalize left.foldl (originReacts (sentBy s a)) (claimedBy s a c r) = u at hapart heq
    have hline : u.origin.lines[n] = s.origin.lines[n] := hapart.line.trans (by rw [horigin])
    obtain ⟨hv, hnooffer, hgains⟩ := sourceOffered_line (n := n) (h := ⟨k, f.seq⟩) (u := u)
      (by rw [hapart.reacts.control, hcontrol]; exact hs) (by rw [hline]; exact hst)
    rw [← heq] at hv hnooffer hgains
    rw [hline] at hv hgains
    refine ⟨by rw [htorigin, hv], fun p hp => ?_, fun hlevel hactive => ?_⟩
    · have habsent := hedits.keeps_absent (which := offerOf (.line n)) (fun aim haim => offerOf_keeps haim) hnooffer
      exact Bool.eq_false_iff.mpr (List.any_eq_false.mp habsent p hp)
    · have hgained := hgains ((isLevel_iff _).mpr hlevel)
        ((lineActive_congr (hapart.levels.trans (by rw [horigin])) hline).trans hactive)
      refine (hgained.before fun habsent => ?_).after (beq_self_eq_true _) hedits fun aim haim => (withdrawOf_keeps haim).1
      exact hapart.edits.keeps_absent (fun aim haim => by rw [haim]; rfl) (claimedBy_absent habsent)
  · have hstay : StaysOn s a c r := hs.elim (fun hm => .inl ⟨hm, hdiv⟩) fun hl => .inr ⟨hl, hleaving hl⟩
    rw [(attemptEnds_of_stays hr hown hstay).1, hcreated (.raise x.id) hq]
    have hkept := originReacts_keeps_raise (sent := sentBy s a) (s := claimedBy s a c r) (cs := left)
      (claimedBy_ids haccounts) (by rw [horigin]; exact hx) (fun y _ => by rw [hh]; nofun)
      (fun y hy htakes => hnone y hy htakes.1)
    exact mem_changeRaise (f := fun r => { r with state := .offered, handle := some ⟨k, f.seq⟩ }) hkept

end Sys2Proof.Proofs
end


section
/-! A change of an input at its line record (R117 to R122). -/

set_option Elab.async false

namespace Sys2Proof.Machine

/-- The request line follows; nothing else of the station moves (R25). -/
theorem updateRequest_eq (v : State) : updateRequest v = v.setBus (v.bus.requestAs (updateRequest v).bus) := rfl

theorem levelsWith_getLsbD (w : Word16) (n m : Line) (level : Bool) :
    (levelsWith w n level).getLsbD m.val = if m = n then level else w.getLsbD m.val := by
  unfold levelsWith
  cases level
  · refine (setHas_drop w n m).trans ?_
    by_cases h : m = n
    · simp [h]
    · rw [if_neg h, decide_eq_false h, Bool.not_false, Bool.and_true]
      rfl
  · refine (setHas_add w n m).trans ?_
    by_cases h : m = n
    · simp [h]
    · rw [if_neg h, decide_eq_false h, Bool.or_false]
      rfl

/-- The station with the input at its new level, before the line record takes it in. -/
def withLevel (n : Line) (level : Bool) (s : State) : State :=
  s.setOrigin { s.origin with levels := levelsWith s.origin.levels n level }

section

variable {s : State} {n : Line} {level : Bool}

theorem inputChanges_of_change (h : s.origin.levels.getLsbD n.val ≠ level) :
    inputChanges n level s = lineEvent n level (withLevel n level s) := by
  unfold inputChanges
  exact if_neg h

theorem lineActive_iff (s : State) (n : Line) : lineActive s n = true ↔
    s.origin.lines[n].mode = .levelHigh ∧ s.origin.levels.getLsbD n.val = true ∨
      s.origin.lines[n].mode = .levelLow ∧ s.origin.levels.getLsbD n.val = false := by
  unfold lineActive
  cases s.origin.lines[n].mode <;> simp

/-- A level line is active by the new level of its input (R117). -/
theorem lineActive_withLevel (hmode : s.origin.lines[n].mode = .levelHigh ∨ s.origin.lines[n].mode = .levelLow) :
    lineActive (withLevel n level s) n = ((s.origin.lines[n].mode == .levelHigh) == level) := by
  have hlevel : (withLevel n level s).origin.levels.getLsbD n.val = level :=
    (levelsWith_getLsbD s.origin.levels n n level).trans (if_pos rfl)
  unfold lineActive
  rw [hlevel]
  change (match s.origin.lines[n].mode with
    | .levelHigh => level
    | .levelLow => !level
    | .edgeRise | .edgeFall => false) = _
  rcases hmode with h | h <;> rw [h] <;> cases level <;> rfl

/-- What a change of its input means for a level line, whatever its state (R117, R119, R121). -/
theorem lineEvent_level {u : State} (hmode : u.origin.lines[n].mode = .levelHigh ∨ u.origin.lines[n].mode = .levelLow) :
    lineEvent n level u = if (u.origin.lines[n].mode == .levelHigh) == level then evaluateLine n u else levelInactive n u := by
  unfold lineEvent levelActive evaluateLine levelInactive
  rcases hmode with h | h <;> rw [h] <;> cases level <;> cases hs : u.origin.lines[n].state <;> rfl

/-- What a change of its input means for an edge line, whatever its state (R117, R122). -/
theorem lineEvent_edge {u : State} (hmode : u.origin.lines[n].mode = .edgeRise ∨ u.origin.lines[n].mode = .edgeFall) :
    lineEvent n level u = if (u.origin.lines[n].mode == .edgeRise) == level then edgeReceived n u else u := by
  unfold lineEvent edgeReceived
  rcases hmode with h | h <;> rw [h] <;> cases level <;> cases hs : u.origin.lines[n].state <;> rfl

theorem levelInactive_want {u : State} (hs : u.origin.lines[n].state = .want) (hd : u.control.state ≠ .departing) :
    levelInactive n u = (changeLine n (fun l => { l with state := .idle }) u).setAgenda { u.agenda with
      purposes := u.agenda.purposes.filter (fun p => !offerOf (.line n) p.aim) } := by
  have hsame : ∀ a, Aim.isOfferOf (.line n) a = offerOf (.line n) a := fun a => by cases a <;> rfl
  unfold levelInactive dropPurposes
  rw [hs]
  refine (if_neg hd).trans ?_
  simp only [hsame]
  rfl

/-- OFFERED and inactive: a WITHDRAW where the state takes it in (R121). -/
theorem levelInactive_offered {u : State} (hs : u.origin.lines[n].state = .offered)
    (hlevel : u.origin.lines[n].mode.isLevel = true) (hactive : lineActive u n = false) : levelInactive n u =
      match u.origin.lines[n].handle with
      | some h => addPurpose (.withdraw h n) u
      | none => u := by
  unfold levelInactive checkWithdraw
  rw [hs]
  dsimp only
  cases hh : u.origin.lines[n].handle
  · rfl
  · exact if_pos ⟨hs, hlevel, hactive⟩

theorem levelInactive_other {u : State} (h : u.origin.lines[n].state ≠ .offered)
    (hw : ¬(u.origin.lines[n].state = .want ∧ u.control.state ≠ .departing)) : levelInactive n u = u := by
  unfold levelInactive
  split
  · rename_i hs
    exact if_pos (by_contra fun hd => hw ⟨hs, hd⟩)
  · exact absurd ‹_› h
  all_goals rfl

theorem takesIn_withdraw {x : StationState} {h : Handle} {n : Line} :
    takesIn x (.withdraw h n) = true ↔ x = .member ∨ x = .leaving := by
  cases x <;> simp [takesIn]

/-- The station after a change of an input, where the line record becomes as f has it and the agenda as g. -/
theorem inputChanged {f : LineRecord → LineRecord} {g : Agenda} {v : State} (hv : v = inputChanges n level s)
    (ho : v.origin = (changeLine n f (withLevel n level s)).origin) (hg : v.agenda = g) : let t := updateRequest v
    exec (.eventLineChange n level) s = .next t ∧
      t = ((s.setAgenda t.agenda).setOrigin t.origin).setBus (s.bus.requestAs t.bus) ∧
      t.origin = { s.origin with levels := t.origin.levels, lines := t.origin.lines } ∧
      (∀ m : Line, t.origin.levels.getLsbD m.val = if m = n then level else s.origin.levels.getLsbD m.val) ∧
      (∀ m : Line, m ≠ n → t.origin.lines[m] = s.origin.lines[m]) ∧
      t.origin.lines[n] = f s.origin.lines[n] ∧ t.agenda = g := by
  have hframe : v = (s.setAgenda v.agenda).setOrigin v.origin := by
    obtain ⟨hnumber, hbus, hrecord, hcontrol, hclaim, hport, hpending⟩ := inputChanges_frame n level s
    rw [← hv] at hnumber hbus hrecord hcontrol hclaim hport hpending
    calc v = ⟨v.number, v.bus, v.record, v.agenda, v.control, v.origin, v.claim, v.port, v.pending⟩ := rfl
      _ = _ := by rw [hnumber, hbus, hrecord, hcontrol, hclaim, hport, hpending]; rfl
  have hlines : ∀ m : Line, v.origin.lines[m] = if m = n then f s.origin.lines[n] else s.origin.lines[m] := fun m => by
    rw [ho, changeLine_lines]
    rfl
  have hbus : v.bus = s.bus := by rw [hv, (inputChanges_frame n level s).2.1]
  refine ⟨by rw [hv]; rfl, ?_, ?_, fun m => ?_, fun m hm => (hlines m).trans (if_neg hm), (hlines n).trans (if_pos rfl), hg⟩
  · rw [updateRequest_eq, hbus]
    exact congrArg (fun x => State.setBus x _) hframe
  · change v.origin = { s.origin with levels := v.origin.levels, lines := v.origin.lines }
    rw [ho, changeLine_origin]
    rfl
  · change v.origin.levels.getLsbD m.val = _
    rw [ho, changeLine_origin]
    exact levelsWith_getLsbD _ _ _ _

theorem changeLine_id (n : Line) (u : State) : (changeLine n id u).origin = u.origin := by
  rw [changeLine_origin]
  simp

end

end Sys2Proof.Machine

namespace Sys2Proof.Proofs

open Sys2Proof.Machine

/-- Settles O18: a level line by its new activity and state, an edge line by the edge and its state. -/
theorem linesFollowTheirInputs : Obligations.LinesFollowTheirInputs := by
  refine ⟨fun s n level hchange hmode => ?_, fun s n level hchange hmode => ?_, lineActive_iff⟩
  · intro l active
    have hevent : inputChanges n level s = if active then evaluateLine n (withLevel n level s)
        else levelInactive n (withLevel n level s) := (inputChanges_of_change hchange).trans (lineEvent_level hmode)
    have hactive : lineActive (withLevel n level s) n = active := lineActive_withLevel hmode
    have hline : (withLevel n level s).origin.lines[n] = l := rfl
    have hcontrol : (withLevel n level s).control = s.control := rfl
    have hsame : inputChanges n level s = withLevel n level s → ∃ t, exec (.eventLineChange n level) s = .next t ∧
        t = ((s.setAgenda t.agenda).setOrigin t.origin).setBus (s.bus.requestAs t.bus) ∧
        t.origin = { s.origin with levels := t.origin.levels, lines := t.origin.lines } ∧
        (∀ m : Line, t.origin.levels.getLsbD m.val = if m = n then level else s.origin.levels.getLsbD m.val) ∧
        (∀ m : Line, m ≠ n → t.origin.lines[m] = s.origin.lines[m]) ∧ t.origin.lines[n] = l ∧ t.agenda = s.agenda :=
      fun heq => ⟨_, inputChanged (f := id) (g := s.agenda) heq.symm (changeLine_id n _).symm rfl⟩
    by_cases hw : active = true ∧ l.state = .idle ∧ s.control.state = .member
    · rw [hw.1, if_pos rfl, evaluateLine_eq, hactive, hline, hcontrol, if_pos ⟨hw.2.1, hw.2.2, hw.1⟩] at hevent
      obtain ⟨hexec, ht, ho, hlevels, hlines, hl, hg⟩ := inputChanged (f := fun l => { l with state := .want })
        hevent.symm rfl rfl
      refine ⟨_, hexec, ht, ho, hlevels, hlines, ?_⟩
      rw [if_pos hw]
      exact ⟨hl, hg⟩
    by_cases hi : active = false ∧ l.state = .want ∧ s.control.state ≠ .departing
    · rw [hi.1, if_neg Bool.false_ne_true, levelInactive_want (u := withLevel n level s) hi.2.1 hi.2.2] at hevent
      obtain ⟨hexec, ht, ho, hlevels, hlines, hl, hg⟩ := inputChanged (f := fun l => { l with state := .idle })
        hevent.symm rfl rfl
      refine ⟨_, hexec, ht, ho, hlevels, hlines, ?_⟩
      rw [if_neg hw, if_pos hi]
      exact ⟨hl, hg⟩
    by_cases hf : active = false ∧ l.state = .offered
    · have hoffered := levelInactive_offered (u := withLevel n level s) hf.2 ((isLevel_iff _).mpr hmode)
        (hactive.trans hf.1)
      rw [hf.1, if_neg Bool.false_ne_true, hoffered, hline] at hevent
      cases hh : l.handle with
      | none =>
        rw [hh] at hevent
        obtain ⟨t, hexec, ht, ho, hlevels, hlines, hl, hg⟩ := hsame hevent
        refine ⟨t, hexec, ht, ho, hlevels, hlines, ?_⟩
        rw [if_neg hw, if_neg hi]
        split
        · exact ⟨hl, fun _ => hg, fun h he => absurd he nofun⟩
        · exact ⟨hl, hg⟩
      | some h =>
        rw [hh] at hevent
        by_cases hm : s.control.state = .member ∨ s.control.state = .leaving
        · have hgains : addPurpose (.withdraw h n) (withLevel n level s) =
              (withLevel n level s).setAgenda (s.agenda.gains (withdrawOf h) (.withdraw h n)) :=
            addPurpose_gains (takesIn_withdraw.mpr hm) fun p _ => by rw [withdrawOf_eq h n]
          obtain ⟨hexec, ht, ho, hlevels, hlines, hl, hg⟩ := inputChanged (f := id) (hevent.trans hgains).symm
            (changeLine_id n _).symm rfl
          refine ⟨_, hexec, ht, ho, hlevels, hlines, ?_⟩
          rw [if_neg hw, if_neg hi, if_pos ⟨hf.1, hf.2, hm⟩]
          exact ⟨hl, nofun, fun g he => by rw [← Option.some.inj he]; exact hg⟩
        · have hnot : addPurpose (.withdraw h n) (withLevel n level s) = withLevel n level s := by
            rcases addPurpose_cases (.withdraw h n) (withLevel n level s) with ⟨htakes, -⟩ | ⟨-, heq⟩
            · exact absurd (takesIn_withdraw.mp htakes) hm
            · exact heq
          obtain ⟨t, hexec, ht, ho, hlevels, hlines, hl, hg⟩ := hsame (hevent.trans hnot)
          refine ⟨t, hexec, ht, ho, hlevels, hlines, ?_⟩
          rw [if_neg hw, if_neg hi, if_neg fun hand => hm hand.2.2]
          exact ⟨hl, hg⟩
    · have hstill : inputChanges n level s = withLevel n level s := by
        rw [hevent]
        cases ha : active
        · exact (if_neg Bool.false_ne_true).trans (levelInactive_other (fun hs => hf ⟨ha, hs⟩) fun hs => hi ⟨ha, hs⟩)
        · rw [if_pos rfl, evaluateLine_eq]
          exact if_neg fun hand => hw ⟨ha, hand.1, hand.2.1⟩
      obtain ⟨t, hexec, ht, ho, hlevels, hlines, hl, hg⟩ := hsame hstill
      refine ⟨t, hexec, ht, ho, hlevels, hlines, ?_⟩
      rw [if_neg hw, if_neg hi, if_neg fun hand => hf ⟨hand.1, hand.2.1⟩]
      exact ⟨hl, hg⟩
  · intro l edge
    have hevent : inputChanges n level s = if edge then edgeReceived n (withLevel n level s)
        else withLevel n level s := (inputChanges_of_change hchange).trans (lineEvent_edge hmode)
    have hline : (withLevel n level s).origin.lines[n] = l := rfl
    have hcontrol : (withLevel n level s).control = s.control := rfl
    by_cases hw : edge = true ∧ l.state = .idle ∧ s.control.state = .member
    · unfold edgeReceived at hevent
      rw [hw.1, if_pos rfl, hline, hw.2.1] at hevent
      have hwants := hevent.trans ((if_pos hw.2.2).trans (lineWants_eq (s := withLevel n level s) hw.2.2))
      obtain ⟨hexec, ht, ho, hlevels, hlines, hl, hg⟩ := inputChanged (f := fun l => { l with state := .want })
        hwants.symm rfl rfl
      refine ⟨_, hexec, ht, ho, hlevels, hlines, ?_⟩
      rw [if_pos hw]
      exact ⟨hl, hg⟩
    by_cases hmemo : edge = true ∧ (l.state = .want ∨ l.state = .offered ∨ l.state = .served)
    · have hmarked : inputChanges n level s = changeLine n (fun l => { l with memo := true }) (withLevel n level s) := by
        unfold edgeReceived at hevent
        rw [hevent, hmemo.1, if_pos rfl, hline]
        rcases hmemo.2 with hs | hs | hs <;> rw [hs]
      obtain ⟨hexec, ht, ho, hlevels, hlines, hl, hg⟩ := inputChanged (g := s.agenda) hmarked.symm rfl rfl
      refine ⟨_, hexec, ht, ho, hlevels, hlines, ?_⟩
      rw [if_neg hw, if_pos hmemo]
      exact ⟨hg, hl⟩
    · have hstill : inputChanges n level s = withLevel n level s := by
        rw [hevent]
        cases he : edge
        · rfl
        · unfold edgeReceived
          rw [if_pos rfl, hline]
          cases hs : l.state
          case idle => exact if_neg fun hm => hw ⟨he, hs, hm⟩
          case want => exact absurd ⟨he, .inl hs⟩ hmemo
          case offered => exact absurd ⟨he, .inr (.inl hs)⟩ hmemo
          case served => exact absurd ⟨he, .inr (.inr hs)⟩ hmemo
          all_goals rfl
      obtain ⟨hexec, ht, ho, hlevels, hlines, hl, hg⟩ := inputChanged (f := id) (g := s.agenda) hstill.symm
        (changeLine_id n _).symm rfl
      refine ⟨_, hexec, ht, ho, hlevels, hlines, ?_⟩
      rw [if_neg hw, if_neg hmemo]
      exact ⟨hg, hl⟩

end Sys2Proof.Proofs
end


section
/-! The timer expiries, and the order of purposes (R41, R86, R92, R94, R99, R100, R103, R105, R113, R125). -/

set_option Elab.async false

namespace Sys2Proof.Machine

/-! ### Purposes the timers add -/

section

variable {s : State}

theorem addPurpose_beacon (h : s.judging) :
    addPurpose .beacon s = s.setAgenda (s.agenda.gains (· == .beacon) .beacon) := by
  refine addPurpose_gains ?_ fun p _ => ?_
  · rcases h with h | h | h <;> rw [h] <;> rfl
  · cases p.aim <;> rfl

theorem addPurpose_departureNull (h : s.control.state = .departing) :
    addPurpose .departureNull s = s.setAgenda (s.agenda.gains (· == .departureNull) .departureNull) := by
  refine addPurpose_gains (by rw [h]; rfl) fun p _ => ?_
  cases p.aim <;> rfl

theorem addPurpose_join (h : s.control.state = .joining) :
    addPurpose .join s = s.setAgenda (s.agenda.gains (fun a => a == .join || a == .found) .join) := by
  refine addPurpose_gains (by rw [h]; rfl) fun p _ => ?_
  cases p.aim <;> rfl

theorem addPurpose_revoke (h : s.control.state = .member ∨ s.control.state = .leaving) (g : Handle) (c : Station)
    (x : Source) : addPurpose (.revoke g c x) s = s.setAgenda (s.agenda.gains (revokeOf g) (.revoke g c x)) :=
  addPurpose_gains (takesIn_of_member h ⟨nofun, nofun, nofun⟩) fun p _ => by rw [revokeOf_eq g c x]

/-- Into an empty agenda a purpose goes alone (R84). -/
theorem addPurpose_first {a : Aim} (htakes : takesIn s.control.state a = true) (h : s.agenda.purposes = []) :
    (addPurpose a s).agenda = { s.agenda with
      purposes := [{ aim := a, age := s.agenda.nextAge, count := 0, setAside := none }]
      nextAge := s.agenda.nextAge + 1 } := by
  rcases addPurpose_cases a s with ⟨-, -, heq⟩ | ⟨hno | ⟨p, hp, -⟩, -⟩
  · rw [heq, h]
    rfl
  · rw [htakes] at hno
    cases hno
  · rw [h] at hp
    cases hp

/-! ### Changes of state with an empty agenda -/

theorem leaveState_agenda_of_nil (h : s.agenda.purposes = []) : (leaveState s).agenda = s.agenda := by
  rw [leaveState_agenda]
  cases hs : s.control.state <;> simp only [h, List.filter_nil] <;> rw [← h]

theorem changeState_founding_agenda (h : s.agenda.purposes = []) : (changeState .founding s).agenda = { s.agenda with
    purposes := [{ aim := .found, age := s.agenda.nextAge, count := 0, setAside := none }]
    nextAge := s.agenda.nextAge + 1 } := by
  have hleft := leaveState_agenda_of_nil h
  have hfirst := addPurpose_first (a := .found) (s := (markState .founding (leaveState s)).setControl
    { (markState .founding (leaveState s)).control with foreign := false, note := none }) rfl
    (show (leaveState s).agenda.purposes = [] by rw [hleft, h])
  change (addPurpose .found _).agenda = _
  rw [hfirst, ← hleft]
  rfl

theorem changeState_joining_agenda (h : s.agenda.purposes = []) : (changeState .joining s).agenda = { s.agenda with
    purposes := [{ aim := .join, age := s.agenda.nextAge, count := 0, setAside := none }]
    nextAge := s.agenda.nextAge + 1 } := by
  have hleft := leaveState_agenda_of_nil h
  have hfirst := addPurpose_first (a := .join) (s := (markState .joining (leaveState s)).setControl
    { (markState .joining (leaveState s)).control with note := none }) rfl
    (show (leaveState s).agenda.purposes = [] by rw [hleft, h])
  change (addPurpose .join _).agenda = _
  rw [hfirst, ← hleft]
  rfl

/-! ### The expiry of the backoff timer (R99, R105) -/

/-- The station with the backoff timer run out. -/
def backoffOver (s : State) : State := s.setControl { s.control with backoff := none, headNoted := false }

theorem execBackoff {b : Nat} {f : FollowOn} (h : s.control.backoff = some (b, f)) :
    exec .backoffTimerExpiry s = .next (updateRequest (backoffEnds s.control.headNoted f (backoffOver s))) := by
  change Host.Outcome.next (match s.control.backoff with | none => s | some (_, follow) => _) = _
  rw [h]
  rfl

/-- The expiry of the backoff timer moves the membership controller and the agenda alone. -/
theorem backoffEnds_frame (noted : Bool) (f : FollowOn) {u : State} (h : u.control.backoff = none) :
    (backoffEnds noted f u).control.backoff = none ∧ (backoffEnds noted f u).record = u.record ∧
      (backoffEnds noted f u).origin = u.origin ∧ (backoffEnds noted f u).claim = u.claim := by
  unfold backoffEnds
  cases hs : u.control.state
  case listen =>
    cases noted
    · exact ⟨h, rfl, rfl, rfl⟩
    · obtain ⟨-, hrecord, hclaim, -⟩ := changeState_frame .joining u
      refine ⟨?_, hrecord, changeState_origin u ⟨nofun, nofun⟩, hclaim⟩
      rw [if_pos rfl, changeState_control]
      simp [enteredControl, leftControl, hs, h]
  case joining =>
    cases f
    · exact ⟨h, rfl, rfl, rfl⟩
    · rw [if_pos rfl, (addPurpose_frame _ _).2.2.2.1, (addPurpose_frame _ _).2.2.1, (addPurpose_frame _ _).2.2.2.2.1,
        (addPurpose_frame _ _).2.2.2.2.2.1]
      exact ⟨h, rfl, rfl, rfl⟩
  all_goals exact ⟨h, rfl, rfl, rfl⟩

end

/-! ### The service timers (R125) -/

theorem addRevoke_eq {u : State} {r : Record} {h : Handle} {e : Entry} {c : Station} {x : Source}
    (hs : u.control.state = .member ∨ u.control.state = .leaving) (hr : u.record = some r) (hordered : r.Ordered)
    (he : e ∈ r.entries) (hslot : e.slot = h.slot) (htag : e.tag = h.tag) (hclaim : e.claimant = some c) :
    addRevoke x (some h) u = u.setAgenda (u.agenda.gains (revokeOf h) (.revoke h c x)) := by
  have hclaimant : claimantOf u h = some c := by
    unfold claimantOf
    rw [hr, Option.bind_some, (entryNamed_iff hordered).mpr ⟨he, hslot, htag⟩, Option.bind_some, hclaim]
  unfold addRevoke
  dsimp only
  rw [hclaimant]
  exact addPurpose_revoke hs h c x

theorem raiseWith_of_mem {s : State} {x : RaiseRecord} (hids : (s.origin.raises.map RaiseRecord.id).Nodup)
    (hx : x ∈ s.origin.raises) : raiseWith s x.id = some x := by
  cases hf : raiseWith s x.id with
  | none => exact absurd (List.find?_eq_none.mp hf x hx) (by simp)
  | some y =>
    obtain ⟨hy, hid⟩ := raiseWith_some hf
    rw [List.inj_on_of_nodup_map hids hy hx hid]

end Sys2Proof.Machine

namespace Sys2Proof.Proofs

open Sys2Proof.Machine

/-- Settles O19: each expiry is one add to the agenda, or one change of a purpose. -/
theorem agendaTimerExpiries : Obligations.AgendaTimerExpiries := by
  intro s
  refine ⟨fun hidle => ?_, fun hwait hs => ?_, fun p hp haside hsound => ?_⟩
  · have hexec : exec .idleTimerExpiry s = .next (updateRequest (if s.control.state.judges then
        addPurpose .beacon (s.setAgenda { s.agenda with idle := none }) else s.setAgenda { s.agenda with idle := none })) :=
      congrArg Host.Outcome.next (if_pos hidle)
    refine ⟨_, hexec, ?_⟩
    by_cases hj : s.judging
    · rw [if_pos ((judges_iff s).mpr hj), if_pos hj,
        addPurpose_beacon (s := s.setAgenda { s.agenda with idle := none }) hj]
      refine ⟨rfl, ?_⟩
      change Agenda.gains { s.agenda with idle := none } (· == .beacon) .beacon = _
      unfold Agenda.gains
      split <;> rfl
    · rw [if_neg fun h => hj ((judges_iff s).mp h), if_neg hj]
      exact ⟨rfl, rfl⟩
  · refine ⟨_, congrArg Host.Outcome.next (if_pos hwait), ?_⟩
    rw [addPurpose_departureNull (s := s.setControl { s.control with wait := none }) hs]
    exact ⟨rfl, rfl⟩
  · have hany : s.agenda.purposes.any (fun q => q.age == p.age && q.setAside.isSome) = true :=
      List.any_eq_true.mpr ⟨p, hp, by rw [beq_self_eq_true, haside]; rfl⟩
    refine ⟨_, congrArg Host.Outcome.next (if_pos hany), ?_⟩
    have hsame : s.agenda.purposes.map (fun q => if q.age = p.age then { q with setAside := none } else q) =
        s.agenda.purposes.map (fun q => if q = p then { p with setAside := none } else q) := by
      refine List.map_congr_left fun q hq => ?_
      by_cases he : q = p
      · rw [he, if_pos rfl, if_pos rfl]
      · rw [if_neg he, if_neg fun hage => he (purpose_eq_of_age hsound hq hp hage)]
    rw [hsame]
    rfl

/-- Settles O20: each expiry is one change of state, or one add. -/
theorem membershipTimerExpiries : Obligations.MembershipTimerExpiries := by
  intro s hplace only
  have hp := placeSound_iff.mp hplace
  have hempty : s.control.state = .listen → s.agenda.purposes = [] := fun hs =>
    purposesFit_eq_nil hp.purposes fun a => by rw [hs]; rfl
  refine ⟨fun hquiet => ?_, fun hreply => ?_, fun b f hb => ?_⟩
  · have hs : s.control.state = .listen := hp.control.quiet hquiet
    refine ⟨_, congrArg Host.Outcome.next (if_pos ⟨hquiet, hs⟩), ?_, changeState_founding_agenda (hempty hs), ?_, ?_, ?_,
      changeState_origin s ⟨nofun, nofun⟩, ?_, ?_⟩
    · change (changeState .founding s).control = _
      rw [changeState_control]
      simp [enteredControl, leftControl, hs]
    · change (changeState .founding s).port.stateCause = true
      rw [(changeState_frame .founding s).2.2.2.1]
    · exact updateRequest_bus_of (changeState_bus s ⟨nofun, nofun, nofun⟩)
    · exact (changeState_frame .founding s).2.1
    · exact (changeState_frame .founding s).2.2.1
    · change (changeState .founding s).port.faults = _
      rw [(changeState_frame .founding s).2.2.2.1]
  · have hs : s.control.state = .joining := hp.control.joinReply hreply
    have hrecord : s.record = none := noRecord_of_founding hp (.inr hs)
    have hagenda : (joinTimedOut s).agenda = { s.agenda with purposes := [] } := by
      unfold joinTimedOut
      rw [(postFault_frame _ _ _ _ _ _).2.2.2.1, State.setControl_agenda, changeState_agenda_listen, leaveState_agenda, hs]
      exact congrArg (fun ps => { s.agenda with purposes := ps }) (joining_drop hs hp.purposes)
    have hframe : (joinTimedOut s).bus = { s.bus with pointer := 0, learned := false } ∧
        (joinTimedOut s).origin = s.origin ∧ (joinTimedOut s).claim = s.claim := by
      unfold joinTimedOut
      rw [(postFault_frame _ _ _ _ _ _).2.1, (postFault_frame _ _ _ _ _ _).2.2.2.2.2.1,
        (postFault_frame _ _ _ _ _ _).2.2.2.2.2.2.1]
      exact ⟨changeState_bus_listen s, changeState_origin s ⟨nofun, nofun⟩, (changeState_frame .listen s).2.2.1⟩
    have hport : (if s.port.faults.length < 8 then (joinTimedOut s).port.faults = s.port.faults ++ [{
          kind := .joinTimeout, stamp := s.port.clock, station := none, slot := none, line := none,
          seq := none, cause := none }] ∧ (joinTimedOut s).port.overflow = s.port.overflow
        else (joinTimedOut s).port.faults = s.port.faults ∧ (joinTimedOut s).port.overflow = true) ∧
        (joinTimedOut s).port.stateCause = true := by
      have hchanged := changeState_frame .listen s
      unfold joinTimedOut
      rcases postFault_cases .joinTimeout none none none none ((changeState .listen s).setControl
        { (changeState .listen s).control with note := some 0 }) with ⟨hroom, heq⟩ | ⟨hfull, heq⟩ <;>
        rw [State.setControl_port, hchanged.2.2.2.1] at heq <;> rw [heq]
      · rw [State.setControl_port, hchanged.2.2.2.1] at hroom
        rw [if_pos hroom, State.setControl_record, hchanged.2.1, hrecord]
        exact ⟨⟨rfl, rfl⟩, rfl⟩
      · rw [State.setControl_port, hchanged.2.2.2.1] at hfull
        rw [if_neg (Nat.not_lt.mpr hfull)]
        exact ⟨⟨rfl, rfl⟩, rfl⟩
    refine ⟨_, congrArg Host.Outcome.next (if_pos ⟨hreply, hs⟩), ?_, hagenda, joinTimedOut_record s, hframe.2.1, hframe.2.2,
      ?_, ?_, hport.2, hport.1⟩
    · change (joinTimedOut s).control = _
      rw [joinTimedOut_control, changeState_control]
      simp only [enteredControl, leftControl, hs]
      cases s.control.backoff <;> rfl
    · change (joinTimedOut s).bus.pointer = 0
      rw [hframe.1]
    · change (joinTimedOut s).bus.learned = false
      rw [hframe.1]
  · have hframe := backoffEnds_frame s.control.headNoted f (u := backoffOver s) rfl
    refine ⟨_, execBackoff hb, fun hs hnoted => ?_, fun hs hnoted => ?_, fun hs hf => ?_, hframe⟩
    · have hends : backoffEnds s.control.headNoted f (backoffOver s) = changeState .joining (backoffOver s) := by
        unfold backoffEnds
        rw [show (backoffOver s).control.state = .listen from hs, hnoted]
        rfl
      rw [hends]
      refine ⟨?_, changeState_joining_agenda (s := backoffOver s) (hempty hs), ?_⟩
      · change (changeState .joining (backoffOver s)).control = _
        rw [changeState_control]
        simp [enteredControl, leftControl, backoffOver, hs]
      · change (changeState .joining (backoffOver s)).port.stateCause = true
        rw [(changeState_frame .joining _).2.2.2.1]
    · have hends : backoffEnds s.control.headNoted f (backoffOver s) = (backoffOver s).setControl
          { (backoffOver s).control with quiet := some (s.port.store.tq * 1000) } := by
        unfold backoffEnds
        rw [show (backoffOver s).control.state = .listen from hs, hnoted]
        rfl
      have hsame : (backoffOver s).setControl { (backoffOver s).control with quiet := some (s.port.store.tq * 1000) } =
          s.setControl { s.control with backoff := none, quiet := some (s.port.store.tq * 1000) } := by
        change s.setControl { s.control with
          backoff := none, headNoted := false, quiet := some (s.port.store.tq * 1000) } = _
        rw [← hnoted]
      rw [hends, hsame]
      rfl
    · have hends : backoffEnds s.control.headNoted f (backoffOver s) = (backoffOver s).setAgenda
          (s.agenda.gains (fun a => a == .join || a == .found) .join) := by
        unfold backoffEnds
        rw [show (backoffOver s).control.state = .joining from hs, hf]
        exact addPurpose_join (s := backoffOver s) hs
      rw [hends]
      exact ⟨rfl, rfl⟩

/-- Settles O21: the claimant is read from the copy at the expiry. -/
theorem serviceTimerAddsRevoke : Obligations.ServiceTimerAddsRevoke := by
  intro s r h e c hs hr hordered he hslot htag hclaim
  refine ⟨fun n hh htimer => ?_, fun x hx haccounts hh htimer => ?_⟩
  · have hexec : exec (.serviceTimerExpiry (.line n)) s = .next (updateRequest
        ((changeLine n (fun l => { l with timer := none }) s).setAgenda
          (s.agenda.gains (revokeOf h) (.revoke h c (.line n))))) := by
      refine (congrArg Host.Outcome.next (if_pos htimer)).trans (congrArg (fun u => Host.Outcome.next (updateRequest u)) ?_)
      rw [hh]
      exact addRevoke_eq (u := changeLine n _ s) hs hr hordered he hslot htag hclaim
    refine ⟨_, hexec, rfl, rfl, fun m => ?_, rfl⟩
    exact changeLine_lines n m (fun l => { l with timer := none }) s
  · have hids := haccounts.2.2.2.2
    have hmap : s.origin.raises.map (fun y => if y.id = x.id then { y with timer := none } else y) =
        s.origin.raises.map (fun y => if y = x then { x with timer := none } else y) := by
      refine List.map_congr_left fun y hy => ?_
      by_cases hxy : y = x
      · rw [hxy, if_pos rfl, if_pos rfl]
      · rw [if_neg hxy, if_neg fun hid => hxy (List.inj_on_of_nodup_map hids hy hx hid)]
    have hexec : exec (.serviceTimerExpiry (.raise x.id)) s = .next (updateRequest
        ((changeRaise x.id (fun y => { y with timer := none }) s).setAgenda
          (s.agenda.gains (revokeOf h) (.revoke h c (.raise x.id))))) := by
      change Host.Outcome.next (match raiseWith s x.id with | none => s | some r => _) = _
      rw [raiseWith_of_mem hids hx]
      refine (congrArg Host.Outcome.next (if_pos htimer)).trans (congrArg (fun u => Host.Outcome.next (updateRequest u)) ?_)
      rw [hh]
      exact addRevoke_eq (u := changeRaise x.id _ s) hs hr hordered he hslot htag hclaim
    refine ⟨_, hexec, ?_, rfl⟩
    rw [← hmap]
    rfl

/-- Settles O23: the rank decides between kinds, then the priority of an OFFER, then the age. -/
theorem purposesRankByKindThenAge : Obligations.PurposesRankByKindThenAge := by
  intro h₁ h₂ h₃ c z₁ z₂ n prio
  have hrank : ∀ (a b : Aim), a.rank < b.rank → ∀ (age₁ age₂ count₁ count₂ : Nat) (set₁ set₂ : Timer),
      goesBefore ⟨a, age₁, count₁, set₁⟩ ⟨b, age₂, count₂, set₂⟩ = true ∧
      goesBefore ⟨b, age₂, count₂, set₂⟩ ⟨a, age₁, count₁, set₁⟩ = false := by
    intro a b hab age₁ age₂ count₁ count₂ set₁ set₂
    have hne : (b.rank == a.rank) = false := beq_eq_false_iff_ne.mpr (Nat.ne_of_gt hab)
    unfold goesBefore
    dsimp only
    rw [decide_eq_true hab, decide_eq_false (Nat.not_lt.mpr (Nat.le_of_lt hab)), hne]
    exact ⟨rfl, rfl⟩
  refine ⟨?_, fun age₁ age₂ count₁ count₂ set₁ set₂ => ⟨fun a b hab => ?_, fun x y p q => ?_⟩⟩
  · have hranks : ([[.duty], [.leave], [.done h₁], [.revoke h₂ c z₁], [.withdraw h₃ n], [.claim], [.offer z₂ prio],
        [.join, .found], [.beacon]] : List (List Aim)).Pairwise fun earlier later =>
        ∀ a ∈ earlier, ∀ b ∈ later, a.rank < b.rank := by
      simp [Aim.rank]
    exact hranks.imp fun hlt a ha b hb => hrank a b (hlt a ha b hb)
  · have hsame : a.rank = b.rank ∧ a.offerLag = 0 ∧ b.offerLag = 0 := by
      rcases hab with ⟨g, g', rfl, rfl⟩ | ⟨g, g', d, d', z, z', rfl, rfl⟩ | ⟨g, g', m, m', rfl, rfl⟩ <;>
        exact ⟨rfl, rfl, rfl⟩
    obtain ⟨hrank, hlag, hlag'⟩ := hsame
    simp [goesBefore, hrank, hlag, hlag']
  · have hlag : ∀ p : Priority, p.toNat ≤ 7 := fun p => Nat.le_of_lt_succ p.isLt
    have hp := hlag p
    have hq := hlag q
    unfold goesBefore Aim.rank Aim.offerLag
    rw [Bool.eq_iff_iff]
    simp only [Nat.lt_irrefl, decide_false, Bool.false_or, beq_self_eq_true, Bool.true_and, Bool.or_eq_true,
      Bool.and_eq_true, decide_eq_true_eq, beq_iff_eq, BitVec.lt_def, ← BitVec.toNat_inj]
    omega

end Sys2Proof.Proofs
end


section
/-! The answers at the end of the frame, and what a station drives in its field (R31 to R38). -/

set_option Elab.async false

namespace Sys2Proof.Machine

/-! ### The end of the frame -/

theorem frameEnd_exec {s : State} {a : Attempt} (ha : s.bus.attempt = some a) (hf : a.framed = false)
    (words : List Word16) : exec (.frameEnd words) s =
      .next (s.setBus { s.bus with attempt := some (frameEnds words s a) }) := by
  change Host.Outcome.next _ = _
  simp only [ha, hf, Bool.false_eq_true, if_false]

/-- At a receiver the check word register has run over the words read (R31). -/
theorem frameEnds_receiver {a : Attempt} (hd : a.driven = none) (words : List Word16) (s : State) :
    frameEnds words s a = { a with
      framed := true, words := words, crc := checkWord words.dropLast
      answer := some (receiverAnswer s a (decodeFrame words)) } := by
  simp only [frameEnds, hd]

/-- At the sender it has run over the words driven, and the readback is complete (R29, R32). -/
theorem frameEnds_sender {a : Attempt} {f : Frame} (hd : a.driven = some f) (words : List Word16) (s : State) :
    frameEnds words s a = { a with
      framed := true, words := words, crc := checkWord (encodeFrame f).dropLast
      readback := some (words == encodeFrame f)
      answer := some (senderAnswer a (words == encodeFrame f)) } := by
  simp only [frameEnds, hd]

/-- The last word of a frame is the check word of those before it (R29, R170). -/
theorem encodeFrame_checked (f : Frame) :
    encodeFrame f = (encodeFrame f).dropLast ++ [checkWord (encodeFrame f).dropLast] := by
  simp [encodeFrame]

/-! ### The field driven -/

/-- From the end of the frame on a station drives its answer (R33). -/
theorem drivenField_framed {t : State} {a : Attempt} {answer : Answer} (ht : t.bus.attempt = some a)
    (hf : a.framed = true) (ha : a.answer = some answer) : drivenField t = answer.driven := by
  rw [driven_eq]
  simp only [drivenField, ht, hf, ha, if_true, Option.map_some, Option.getD_some]

/-- Before it a station drives nothing (R33). -/
theorem drivenField_unframed {s : State} (h : ∀ a, s.bus.attempt = some a → a.framed = false) :
    drivenField s = 0 := by
  unfold drivenField
  cases ha : s.bus.attempt with
  | none => rfl
  | some a => simp only [h a ha, Bool.false_eq_true, if_false]

/-! ### The answer of a member -/

theorem memberAnswer_bad (me : Station) (r : Record) (w : Station) : memberAnswer me r w none = .refuse .check := rfl

/-- A good frame is answered by its head and then by its content; the head of FOUND and JOIN is not compared
with the copy (R35, R47). -/
theorem memberAnswer_good (me : Station) (r : Record) (w : Station) (f : Frame) :
    let compared := (∀ p, f.body ≠ .found p) ∧ ∀ p, f.body ≠ .join p
    let headOk := f.sender = w ∧ (compared → f.seq = r.seq ∧ f.members = r.members)
    (¬ headOk → memberAnswer me r w (some f) = .refuse .head) ∧
    (headOk → contentOk me f.sender r f.body = false → memberAnswer me r w (some f) = .refuse .content) ∧
    (headOk → contentOk me f.sender r f.body = true → memberAnswer me r w (some f) = .ack) := by
  obtain ⟨sender, seq, members, body⟩ := f
  cases body <;> grind [memberAnswer]

/-- A station that was SYNCING, MEMBER or LEAVING at the close answers as a member (R35). -/
theorem receiverAnswer_member {s : State} {a : Attempt} {r : Record} (hr : s.record = some r)
    (hs : a.stateAtClose = .syncing ∨ a.stateAtClose = .member ∨ a.stateAtClose = .leaving) (good : Option Frame) :
    receiverAnswer s a good = memberAnswer s.number r a.winner good := by
  rcases hs with hs | hs | hs <;> simp only [receiverAnswer, hs, hr]

end Sys2Proof.Machine

namespace Sys2Proof.Proofs

open Sys2Proof.Machine

/-- Settles O27: the end of the frame at a receiver, and the tests in their order. -/
theorem memberAnswersByFirstFailingTest : Obligations.MemberAnswersByFirstFailingTest := by
  intro s a r words ha hf hd hr hs
  have hanswer := receiverAnswer_member hr hs (decodeFrame words)
  refine ⟨receiverAnswer s a (decodeFrame words), _, frameEnd_exec ha hf words, by rw [frameEnds_receiver hd],
    drivenField_framed rfl ?_ ?_, fun hbad => ?_, fun f hgood => ?_⟩
  · rw [frameEnds_receiver hd]
  · rw [frameEnds_receiver hd]
  · rw [hanswer, hbad, memberAnswer_bad]
  · rw [hanswer, hgood]
    exact memberAnswer_good s.number r a.winner f

/-- Settles O28: the end of the frame at a receiver and at the sender. -/
theorem otherStationsAnswerByState : Obligations.OtherStationsAnswerByState := by
  refine ⟨fun s => drivenField_unframed, fun s a words ha hf => ?_⟩
  rcases Option.eq_none_or_eq_some a.driven with hd | ⟨f, hd⟩
  · refine ⟨receiverAnswer s a (decodeFrame words), a.readback, checkWord words.dropLast, _,
      frameEnd_exec ha hf words, by rw [frameEnds_receiver hd], drivenField_framed rfl ?_ ?_,
      fun _ => ⟨rfl, rfl, fun hs => ?_, fun hs => ?_, fun hs => ?_⟩, fun f hs => absurd (hd.symm.trans hs) nofun⟩
    · rw [frameEnds_receiver hd]
    · rw [frameEnds_receiver hd]
    · simp only [receiverAnswer, hs]
    · simp only [receiverAnswer, hs]
    · rcases hs with hs | hs | hs | hs <;> simp only [receiverAnswer, hs]
  · refine ⟨senderAnswer a (words == encodeFrame f), some (words == encodeFrame f),
      checkWord (encodeFrame f).dropLast, _, frameEnd_exec ha hf words, by rw [frameEnds_sender hd],
      drivenField_framed rfl ?_ ?_,
      fun hs => absurd (hd.symm.trans hs) nofun, fun g hg => ?_⟩
    · rw [frameEnds_sender hd]
    · rw [frameEnds_sender hd]
    · obtain rfl : f = g := Option.some.inj (hd.symm.trans hg)
      refine ⟨by rw [Bool.beq_eq_decide_eq], encodeFrame_checked f, ?_⟩
      simp only [senderAnswer, beq_iff_eq]

end Sys2Proof.Proofs
end


section
/-! What the claim unit may claim and selects (8.2, 8.3). -/

set_option Elab.async false

namespace Sys2Proof.Machine

theorem vector4_any {α : Type} (v : Vector α 4) (p : α → Bool) : v.toList.any p = true ↔ ∃ i : Fin 4, p v[i] = true := by
  rw [List.any_eq_true]
  constructor
  · rintro ⟨x, hx, hp⟩
    obtain ⟨i, hi, rfl⟩ := List.mem_iff_getElem.mp hx
    exact ⟨⟨i, by simpa using hi⟩, by simpa using hp⟩
  · rintro ⟨i, hi⟩
    exact ⟨v[i], by simp, hi⟩

theorem vector4_all {α : Type} (v : Vector α 4) (p : α → Bool) : v.toList.all p = true ↔ ∀ i : Fin 4, p v[i] = true := by
  have h := vector4_any v (fun x => !p x)
  rw [← not_iff_not, Bool.not_eq_true, List.all_eq_not_any_not, Bool.not_eq_false', h]
  simp

theorem codeHits_iff (fs : Vector Filter 4) (c : Code) : codeHits fs c = true ↔
    (∃ i : Fin 4, fs[i].enabled = true ∧ c &&& fs[i].mask = fs[i].base &&& fs[i].mask) ∨
      ∀ i : Fin 4, fs[i].enabled = false := by
  unfold codeHits
  rw [Bool.or_eq_true, vector4_any, vector4_all]
  simp only [filterHits, Bool.and_eq_true, beq_iff_eq, Bool.not_eq_true']

/-- An entry that this station may claim: OFFERED, meant for it, of a code that hits (R137). -/
def maybeClaimed (s : State) (e : Entry) : Bool :=
  e.claimant.isNone && setHas e.targets s.number && codeHits s.claim.filters e.code

theorem maybeClaimed_iff (s : State) (e : Entry) : maybeClaimed s e = true ↔
    e.claimant = none ∧ e.targets.getLsbD s.number.val = true ∧
      ((∃ i : Fin 4, s.claim.filters[i].enabled = true ∧
        e.code &&& s.claim.filters[i].mask = s.claim.filters[i].base &&& s.claim.filters[i].mask) ∨
        ∀ i : Fin 4, s.claim.filters[i].enabled = false) := by
  rw [maybeClaimed, Bool.and_eq_true, Bool.and_eq_true, Option.isNone_iff_eq_none, codeHits_iff, setHas, and_assoc]

theorem candidates_eq {s : State} {r : Record} (hr : s.record = some r) :
    candidates s = r.entries.filter (maybeClaimed s) := by
  simp only [candidates, hr]
  rfl

theorem wantsToClaim_iff {s : State} {r : Record} (hr : s.record = some r) : wantsToClaim s = true ↔
    s.control.state = .member ∧ s.claim.paused = false ∧ s.claim.grants.length < s.port.store.d ∧
      ∃ e ∈ r.entries, maybeClaimed s e = true := by
  simp only [wantsToClaim, grantRoom, candidates_eq hr, Bool.and_eq_true, beq_iff_eq, Bool.not_eq_true',
    decide_eq_true_eq, and_assoc, List.isEmpty_eq_false_iff_exists_mem, List.mem_filter]

theorem freezeStands_iff {s : State} {r : Record} (hr : s.record = some r) :
    freezeStands s = true ↔ ∃ j, r.join = some j ∧ j.verdict = .admitted := by
  rw [freezeStands, hr, Option.any_some, frozen_iff]

/-- The entry of highest priority, the earliest among equals, is selected (R139). -/
theorem bestEntry_of_split {before after : List Entry} {e : Entry} (hbefore : ∀ x ∈ before, x.priority < e.priority)
    (hafter : ∀ x ∈ after, x.priority ≤ e.priority) : bestEntry (before ++ e :: after) = some e := by
  induction before with
  | nil =>
    change (match bestEntry after with
      | none => some e
      | some b => if e.priority < b.priority then some b else some e) = some e
    split
    · rfl
    · next b hb => exact if_neg (BitVec.not_lt.mpr (hafter b (bestEntry_mem hb)))
  | cons x xs ih =>
    have hrest := ih fun y hy => hbefore y (List.mem_cons_of_mem x hy)
    change (match bestEntry (xs ++ e :: after) with
      | none => some x
      | some b => if x.priority < b.priority then some b else some x) = some e
    rw [hrest]
    exact if_pos (hbefore x List.mem_cons_self)

theorem eligible_of_wants {s : State} {r : Record} (hr : s.record = some r) (hwants : wantsToClaim s = true)
    (hfree : freezeStands s = false) : eligible s = r.entries.filter (maybeClaimed s) := by
  simp only [eligible, hwants, hfree, Bool.not_false, Bool.and_self, if_true, candidates_eq hr]

theorem eligible_eq_nil {s : State} (h : wantsToClaim s = false ∨ freezeStands s = true) : eligible s = [] := by
  rcases h with h | h <;> simp only [eligible, h, Bool.false_and, Bool.not_true, Bool.and_false, Bool.false_eq_true,
    if_false]

end Sys2Proof.Machine

namespace Sys2Proof.Proofs

open Sys2Proof.Machine

/-- Settles O26: the selected entry splits the eligible ones as it splits the order list. -/
theorem claimSelectsHighestThenOldest : Obligations.ClaimSelectsHighestThenOldest := by
  intro s r hr hits candidate wants frozen
  have hcandidate : ∀ e, candidate e ↔ maybeClaimed s e = true := fun e => (maybeClaimed_iff s e).symm
  have hwants : wantsToClaim s = true ↔ wants := by
    rw [wantsToClaim_iff hr]
    simp only [wants, hcandidate]
  have hfrozen : freezeStands s = true ↔ frozen := freezeStands_iff hr
  refine ⟨hwants, fun before after e hsplit he hw hf hbefore hafter => ?_, fun hno => ?_⟩
  · have helig : eligible s = before.filter (maybeClaimed s) ++ e :: after.filter (maybeClaimed s) := by
      rw [eligible_of_wants hr (hwants.mpr hw) (Bool.eq_false_iff.mpr (mt hfrozen.mp hf)), hsplit, List.filter_append,
        List.filter_cons_of_pos ((hcandidate e).mp he)]
    have hselect : selectEntry s = some e := by
      rw [selectEntry, helig]
      refine bestEntry_of_split (fun x hx => ?_) fun x hx => ?_
      · obtain ⟨hmem, hmay⟩ := List.mem_filter.mp hx
        exact hbefore x hmem ((hcandidate x).mpr hmay)
      · obtain ⟨hmem, hmay⟩ := List.mem_filter.mp hx
        exact hafter x hmem ((hcandidate x).mpr hmay)
    refine ⟨hselect, ?_, ?_⟩
    · simp only [aimBody, hselect, Option.map_some]
    · simp [aimSendable, helig]
  · have helig : eligible s = [] := eligible_eq_nil <|
      hno.imp (fun h => Bool.eq_false_iff.mpr (mt hwants.mp h)) hfrozen.mpr
    have hselect : selectEntry s = none := by rw [selectEntry, helig]; rfl
    refine ⟨hselect, ?_, ?_⟩
    · simp only [aimBody, hselect, Option.map_none]
    · simp only [aimSendable, helig, List.isEmpty_nil, Bool.not_true]

end Sys2Proof.Proofs
end


section
/-! When purposes are sendable and valid, and the bodies built from them (1.7, 5.2, 5.3). -/

set_option Elab.async false

namespace Sys2Proof.Machine

/-! ### Queries of the record -/

/-- The first number of a range that meets a test is the one below which none does. -/
theorem find?_finRange_of_least {n : Nat} {p : Fin n → Bool} {k : Fin n} (hk : p k = true)
    (hbelow : ∀ m < k, p m = false) : (List.finRange n).find? p = some k := by
  rw [List.find?_eq_some_iff_getElem]
  refine ⟨hk, k.val, by simp, by simp, fun m hm => ?_⟩
  rw [hbelow _ (by simpa [Fin.lt_def] using hm)]
  rfl

/-- The lowest free slot: no entry lies in it, and one in every slot below it (R13). -/
theorem lowestFree_of_least {r : Record} {k : Slot} (hk : ∀ e ∈ r.entries, e.slot ≠ k)
    (hbelow : ∀ m : Slot, m < k → ∃ e ∈ r.entries, e.slot = m) : lowestFree r = some k := by
  refine find?_finRange_of_least (by rw [entryAt_none.mpr hk]; rfl) fun m hm => ?_
  obtain ⟨e, he, hslot⟩ := hbelow m hm
  exact Bool.eq_false_iff.mpr fun hnone => entryAt_none.mp (Option.isNone_iff_eq_none.mp hnone) e he hslot

theorem lowestFree_isSome {r : Record} : (lowestFree r).isSome = true ↔ ∃ k : Slot, ∀ e ∈ r.entries, e.slot ≠ k := by
  simp [lowestFree]

/-- Whether an entry of a handle meets a test (R6). -/
theorem entryNamed_any {r : Record} (ho : r.Ordered) (h : Handle) (ok : Entry → Bool) :
    (entryNamed r h).any ok = true ↔ ∃ e ∈ r.entries, e.slot = h.slot ∧ e.tag = h.tag ∧ ok e = true := by
  simp only [Option.any_eq_true, entryNamed_iff ho, and_assoc]

section

variable {s : State} {r : Record} (hr : s.record = some r)
include hr

/-! ### Sendability (R87) -/

theorem not_freezeStands_iff :
    (!freezeStands s) = true ↔ ¬ ∃ j, r.join = some j ∧ j.verdict = .admitted := by
  rw [Bool.not_eq_true', ← Bool.not_eq_true, freezeStands_iff hr]

theorem offerRoom_iff : offerRoom s = true ↔ (¬ ∃ j, r.join = some j ∧ j.verdict = .admitted) ∧
    quotaCount r s.number < r.params.q ∧ ∃ k : Slot, ∀ e ∈ r.entries, e.slot ≠ k := by
  rw [offerRoom, hr, Option.any_some, Bool.and_eq_true, Bool.and_eq_true, Bool.not_eq_true', ← Bool.not_eq_true,
    frozen_iff, lowestFree_isSome, decide_eq_true_eq, and_assoc, and_congr_right_iff]
  exact fun _ => and_comm

/-! ### The bodies (R89, R90, R106, R107) -/

theorem aimBody_duty_of_join {j : JoinRecord} (hj : r.join = some j) (hme : j.respondent = s.number) :
    aimBody s .duty = dutyBody r j := by
  simp only [aimBody, hr, Option.bind_some, isRespondent, hj, hme, beq_self_eq_true, if_true]

theorem aimBody_duty_eq_none (h : ∀ j, r.join = some j → j.respondent ≠ s.number) : aimBody s .duty = none := by
  have hno : isRespondent s.number r = false := by
    unfold isRespondent
    split
    · next j hj => exact beq_eq_false_iff_ne.mpr (h j hj)
    · rfl
  simp only [aimBody, hr, Option.bind_some, hno, Bool.false_eq_true, if_false]

variable (ho : r.Ordered)
include ho

theorem aimBody_done (h : Handle) : aimBody s (.done h) =
    if ∃ e ∈ r.entries, e.slot = h.slot ∧ e.tag = h.tag ∧ e.claimant = some s.number then some (.done h)
    else none := by
  simp only [aimBody, hr, Option.bind_some, entryNamed_any ho, beq_iff_eq]

theorem aimBody_revoke (h : Handle) (c : Station) (z : Source) : aimBody s (.revoke h c z) =
    if ∃ e ∈ r.entries, e.slot = h.slot ∧ e.tag = h.tag ∧ e.claimant = some c then some (.revoke h) else none := by
  simp only [aimBody, hr, Option.bind_some, entryNamed_any ho, beq_iff_eq]

theorem aimBody_withdraw (h : Handle) (n : Line) : aimBody s (.withdraw h n) =
    if lineActive s n = false ∧ ∃ e ∈ r.entries, e.slot = h.slot ∧ e.tag = h.tag ∧ e.claimant = none then
      some (.withdraw h) else none := by
  simp only [aimBody, hr, Option.bind_some, Bool.and_eq_true, entryNamed_any ho, Option.isNone_iff_eq_none,
    Bool.not_eq_true', and_comm]

omit ho

theorem aimBody_offer {k : Slot} (hk : lowestFree r = some k) (z : Source) (prio : Priority) :
    aimBody s (.offer z prio) = offerBody s k prio z := by
  simp only [aimBody, hr, Option.bind_some, hk]

end

/-- The entry at a cursor is the one that has as many before it. -/
theorem dutyBody_entry {r : Record} {j : JoinRecord} (hw : j.waiting = []) (hp : j.phase = .sending)
    {before after : List Entry} {e : Entry} (hsplit : r.entries = before ++ e :: after)
    (hcursor : j.cursor = before.length) (hlt : j.cursor < j.expected) : dutyBody r j = some (.entry j.cursor e) := by
  simp only [dutyBody, hw, hp, hlt, if_true]
  rw [hsplit, hcursor, List.getElem?_append_right le_rfl, Nat.sub_self]
  rfl

end Sys2Proof.Machine

namespace Sys2Proof.Proofs

open Sys2Proof.Machine

/-- Settles O25: kind by kind. -/
theorem purposesAreBuiltAsTheirKindsGive : Obligations.PurposesAreBuiltAsTheirKindsGive := by
  refine ⟨fun s => ⟨fun p => ⟨?_, Option.isSome_iff_exists⟩, List.any_eq_true, fun which => List.any_eq_true, ?_, rfl,
    rfl, rfl, rfl, rfl⟩, fun s r hr ho => ?_⟩
  · rw [sendable, Bool.and_eq_true, Option.isNone_iff_eq_none]
  · simp [aimSendable]
  intro frozen own
  refine ⟨aimBody_duty_eq_none hr, fun j hj hme => ?_, fun h => ⟨not_freezeStands_iff hr, aimBody_done hr ho h⟩,
    fun h c z => ⟨not_freezeStands_iff hr, aimBody_revoke hr ho h c z⟩,
    fun h n => ⟨not_freezeStands_iff hr, aimBody_withdraw hr ho h n⟩, fun z prio => offerRoom_iff hr,
    fun n prio k hk hbelow => ?_⟩
  · intro reply
    rw [aimBody_duty_of_join hr hj hme]
    refine ⟨fun w rest hw => ?_, fun hw hp => ?_, fun hw hp before after e hsplit hcursor hlt =>
      dutyBody_entry hw hp hsplit hcursor hlt, fun hw hp hend => ?_⟩
    · simp only [dutyBody, hw, reply]
    · simp only [dutyBody, hw, hp, reply]
    · simp only [dutyBody, hw, hp, hend, lt_irrefl, if_false]
  · have hfree := lowestFree_of_least hk hbelow
    refine ⟨aimBody_offer hr hfree _ _, fun x hx ⟨_, _, _, _, hids⟩ => ?_⟩
    rw [aimBody_offer hr hfree, offerBody, raiseWith_of_mem hids hx]
    rfl

end Sys2Proof.Proofs
end


section
/-! What an attempt, a timer or a change of station state leaves to the host (the window, the store, the
configuration of lines and filters, the pause flag) and to the pins, and that each change of station state raises
the STATE cause (R97, R117, R148, R155, R166). -/

set_option Elab.async false

namespace Sys2Proof.Machine

/-- What only a reset and the host's own writes change: the number, the commands that wait, and at the port the
ARG locations, the enables, the clock and the store. -/
structure HostSide where
  number : Station
  pending : List Instr
  arg0 : Word32
  arg1 : Word32
  arg2 : Word32
  arg3 : Word32
  mask : BitVec 4
  clock : Word32
  store : Store

def State.hostSide (s : State) : HostSide :=
  ⟨s.number, s.pending, s.port.arg0, s.port.arg1, s.port.arg2, s.port.arg3, s.port.mask, s.port.clock, s.port.store⟩

/-- A line record reduced to its configuration (R116). -/
def LineRecord.settings (l : LineRecord) : LineRecord :=
  { l with state := .disabled, memo := false, handle := none, timer := none }

/-- The input levels, the pause flag and the configuration of filters and lines. -/
structure Settings where
  levels : BitVec 16
  paused : Bool
  filters : Vector Filter 4
  lines : Line → LineRecord

def State.settings (s : State) : Settings :=
  ⟨s.origin.levels, s.claim.paused, s.claim.filters, fun n => s.origin.lines[n].settings⟩

theorem lineDeparts_settings (l : LineRecord) : (lineDeparts l).settings = l.settings := by
  unfold lineDeparts
  split <;> rfl

theorem SameHostSide.hostSide {s t : State} (h : SameHostSide s t) : t.hostSide = s.hostSide := by
  simp only [State.hostSide, h.number, h.pending, h.arg0, h.arg1, h.arg2, h.arg3, h.mask, h.clock, h.store]

theorem settings_of_blocks {s t : State} (horigin : t.origin = s.origin) (hclaim : t.claim = s.claim) :
    t.settings = s.settings := by
  simp only [State.settings, horigin, hclaim]

/-- The STATE cause is raised with every change of station state and not cleared (R97, R166). -/
structure Causes (s t : State) : Prop where
  moved : t.control.state ≠ s.control.state → t.port.stateCause = true
  kept : s.port.stateCause = true → t.port.stateCause = true

namespace Causes

variable {s t u : State}

theorem of_same (hstate : t.control.state = s.control.state) (hcause : t.port.stateCause = s.port.stateCause) :
    Causes s t :=
  ⟨fun h => absurd hstate h, fun h => by rw [hcause, h]⟩

theorem raised (h : t.port.stateCause = true) : Causes s t := ⟨fun _ => h, fun _ => h⟩

theorem trans (h : Causes s t) (k : Causes t u) : Causes s u where
  moved hne := by
    by_cases hst : t.control.state = s.control.state
    · exact k.moved (by rw [hst]; exact hne)
    · exact k.kept (h.moved hst)
  kept := k.kept ∘ h.kept

end Causes

/-- What an attempt, a timer or a change of station state keeps. -/
structure Follows (s t : State) : Prop where
  host : t.hostSide = s.hostSide
  settings : t.settings = s.settings
  causes : Causes s t

namespace Follows

@[simp] theorem refl (s : State) : Follows s s := ⟨rfl, rfl, .of_same rfl rfl⟩

theorem trans {s t u : State} (h : Follows s t) (k : Follows t u) : Follows s u :=
  ⟨k.host.trans h.host, k.settings.trans h.settings, h.causes.trans k.causes⟩

theorem foldl {α : Type} {f : State → α → State} (h : ∀ s a, Follows s (f s a)) (l : List α) (s : State) :
    Follows s (l.foldl f s) := by
  induction l generalizing s with
  | nil => exact refl s
  | cons a l ih => exact (h s a).trans (ih (f s a))

variable {s t : State}

/-- An operation on the agenda, the bus or the copy. -/
theorem of_port (hnumber : t.number = s.number) (hpending : t.pending = s.pending) (hport : t.port = s.port)
    (horigin : t.origin = s.origin) (hclaim : t.claim = s.claim) (hstate : t.control.state = s.control.state) :
    Follows s t :=
  ⟨(SameHostSide.of_port hnumber hpending hport).hostSide, settings_of_blocks horigin hclaim,
    .of_same hstate (by rw [hport])⟩

/-! ### The agenda and the bus -/

theorem addPurpose (a : Aim) (s : State) : Follows s (addPurpose a s) := of_port (by simp) (by simp) (by simp) (by simp)
  (by simp) (by simp)

theorem dropPurposes (which : Aim → Bool) (s : State) : Follows s (dropPurposes which s) := of_port rfl rfl rfl rfl rfl rfl

theorem emptyAgenda (s : State) : Follows s (emptyAgenda s) := of_port rfl rfl rfl rfl rfl rfl

theorem dropSent (s : State) : Follows s (dropSent s) := of_port (by simp) (by simp) (by simp) (by simp) (by simp) (by simp)

theorem countSent (took : Bool) (s : State) : Follows s (countSent took s) := of_port (by simp) (by simp) (by simp)
  (by simp) (by simp) (by simp)

theorem clearSent (s : State) : Follows s (clearSent s) := of_port rfl rfl rfl rfl rfl rfl

theorem restartIdle (s : State) : Follows s (restartIdle s) := of_port rfl rfl rfl rfl rfl rfl

theorem updateWant (s : State) : Follows s (updateWant s) := of_port (by simp) (by simp) (by simp) (by simp) (by simp)
  (by simp)

theorem updateDuty (s : State) : Follows s (updateDuty s) := of_port (by simp) (by simp) (by simp) (by simp) (by simp)
  (by simp)

theorem updateBeacon (a b : Bool) (s : State) : Follows s (updateBeacon a b s) := of_port (by simp) (by simp) (by simp)
  (by simp) (by simp) (by simp)

theorem agendaGrants (s : State) : Follows s (agendaGrants s) := of_port (by simp) (by simp) (by simp) (by simp) (by simp)
  (by simp)

theorem updateRequest (s : State) : Follows s (updateRequest s) := of_port rfl rfl rfl rfl rfl rfl

theorem setBus (b : Bus) (s : State) : Follows s (s.setBus b) := of_port rfl rfl rfl rfl rfl rfl

theorem setRecord (r : Option Record) (s : State) : Follows s (s.setRecord r) := of_port rfl rfl rfl rfl rfl rfl

theorem setControl {c : Control} (s : State) (h : c.state = s.control.state) : Follows s (s.setControl c) :=
  of_port rfl rfl rfl rfl rfl h

/-! ### The queues -/

theorem postFault (k : FaultKind) (a : Option Station) (b : Option Slot) (c : Option Line) (d : Option DepartureCause)
    (s : State) : Follows s (postFault k a b c d s) := by
  rcases postFault_cases k a b c d s with ⟨-, heq⟩ | ⟨-, heq⟩ <;> rw [heq] <;> exact ⟨rfl, rfl, .of_same rfl rfl⟩

theorem postCompletions (cs : List Completion) (s : State) : Follows s (postCompletions cs s) :=
  ⟨rfl, rfl, .of_same rfl rfl⟩

theorem reserve (s : State) : Follows s (reserve s) := ⟨rfl, rfl, .of_same rfl rfl⟩

theorem postDepartures (ds : List (Station × DepartureCause)) (s : State) : Follows s (postDepartures ds s) :=
  foldl (fun _ _ => postFault _ _ _ _ _ _) _ s

theorem postOwnPlace (a b : Bool) (s : State) : Follows s (postOwnPlace a b s) := by
  rw [postOwnPlace_cases]
  cases a <;> cases b
  · exact refl s
  · exact postFault _ _ _ _ _ s
  · exact postFault _ _ _ _ _ s
  · exact (postFault _ _ _ _ _ s).trans (postFault _ _ _ _ _ _)

theorem postRetryLimit (p : Option Purpose) (s : State) : Follows s (postRetryLimit p s) := by
  cases p
  · exact refl s
  · exact postFault _ _ _ _ _ s

theorem postDuplicate (b : Bool) (s : State) : Follows s (postDuplicate b s) := by
  unfold Machine.postDuplicate
  split
  · exact postFault _ _ _ _ _ s
  · exact refl s

/-! ### The origin unit and the claim unit -/

/-- Going on from a change of a line record that keeps its configuration. -/
theorem changeLine_then {n : Line} {f : LineRecord → LineRecord} (k : Follows (Machine.changeLine n f s) t)
    (hf : ∀ l, (f l).settings = l.settings) : Follows s t := by
  have hsettings : (Machine.changeLine n f s).settings = s.settings := by
    refine congrArg (Settings.mk _ _ _) (funext fun m => ?_)
    rw [changeLine_lines]
    split
    · subst m
      exact hf _
    · rfl
  exact (⟨rfl, hsettings, .of_same rfl rfl⟩ : Follows s (Machine.changeLine n f s)).trans k

theorem changeRaise (id : RaiseId) (f : RaiseRecord → RaiseRecord) (s : State) : Follows s (changeRaise id f s) :=
  ⟨rfl, rfl, .of_same rfl rfl⟩

theorem raiseEnds (id : RaiseId) (c : Completion) (s : State) : Follows s (raiseEnds id c s) :=
  ⟨rfl, rfl, .of_same rfl rfl⟩

theorem lineWants (n : Line) (s : State) : Follows s (lineWants n s) :=
  changeLine_then (addPurpose _ _) fun _ => rfl

theorem evaluateLine (n : Line) (s : State) : Follows s (evaluateLine n s) := by
  unfold Machine.evaluateLine
  split
  · exact lineWants n s
  · exact refl s

theorem checkWithdraw (n : Line) (s : State) : Follows s (checkWithdraw n s) := of_port (by simp) (by simp) (by simp)
  (by simp) (by simp) (by simp)

theorem levelInactive (n : Line) (s : State) : Follows s (levelInactive n s) := by
  unfold Machine.levelInactive
  split
  · split
    · exact refl s
    · exact changeLine_then (dropPurposes _ _) fun _ => rfl
  · exact checkWithdraw n s
  all_goals exact refl s

theorem edgeReceived (n : Line) (s : State) : Follows s (edgeReceived n s) := by
  unfold Machine.edgeReceived
  split
  · split
    · exact lineWants n s
    · exact refl s
  case h_2 | h_3 | h_4 => exact changeLine_then (refl _) fun _ => rfl
  all_goals exact refl s

theorem lineEvent (n : Line) (level : Bool) (s : State) : Follows s (lineEvent n level s) := by
  unfold Machine.lineEvent levelActive
  split
  · exact refl s
  · exact refl s
  all_goals
    split
    · exact evaluateLine n s
    · exact evaluateLine n s
    · exact levelInactive n s
    · exact levelInactive n s
    · exact edgeReceived n s
    · exact edgeReceived n s
    · exact refl s
    · exact refl s

theorem rearmLine (n : Line) (s : State) : Follows s (rearmLine n s) := by
  unfold Machine.rearmLine
  dsimp only
  split
  · exact changeLine_then (evaluateLine n _) fun _ => rfl
  · split
    · exact changeLine_then (lineWants n _) fun _ => rfl
    · exact changeLine_then (refl _) fun _ => rfl

theorem sourceOffered (x : Source) (h : Handle) (s : State) : Follows s (sourceOffered x h s) := by
  unfold Machine.sourceOffered
  split
  · split
    · exact changeLine_then ((dropPurposes _ _).trans (checkWithdraw _ _)) fun _ => rfl
    · exact refl s
  · exact changeRaise _ _ s

/-- The reaction of the origin unit to an entry's change keeps the configuration of the lines (R123 to R128). -/
theorem entryReaction (b : Became) (x : Source) (h : Handle) (s : State) : Follows s (entryReaction b x h s) := by
  cases x with
  | line n =>
    cases b
    case claimed =>
      unfold Machine.entryReaction sourceClaimed
      exact changeLine_then (refl _) fun _ => rfl
    case returnedByRevoke | returnedByDeparture => exact changeLine_then (checkWithdraw n _) fun _ => rfl
    case removedByDone => exact rearmLine n s
    case removedByWithdraw => exact changeLine_then (evaluateLine n _) fun _ => rfl
    case removedByRevoke => exact changeLine_then (postFault _ _ _ _ _ _) fun _ => rfl
    all_goals exact refl s
  | raise id =>
    cases b
    case claimed | returnedByRevoke | returnedByDeparture => exact changeRaise _ _ s
    case removedByDone | removedByRevoke => exact raiseEnds _ _ s
    all_goals exact refl s

theorem originReacts (sent : Option Sent) (s : State) (c : EntryChange) : Follows s (originReacts sent s c) := by
  by_cases hb : c.became = .created
  · rw [originReacts_created hb]
    split
    · split
      · exact sourceOffered _ _ s
      · exact refl s
    · exact refl s
  · rw [originReacts_held hb]
    split
    · split
      · exact refl s
      · exact entryReaction _ _ _ s
    · exact refl s

theorem offerRaise (s : State) (r : RaiseRecord) : Follows s (offerRaise s r) := by
  unfold Machine.offerRaise
  split
  · exact addPurpose _ s
  · exact refl s

theorem originEnters (s : State) : Follows s (originEnters s) :=
  (foldl offerRaise _ s).trans (foldl (fun u n => evaluateLine n u) _ _)

theorem stopServiceTimers (s : State) : Follows s (stopServiceTimers s) where
  host := rfl
  settings := congrArg (Settings.mk _ _ _) (funext fun n => by simp [Machine.stopServiceTimers, LineRecord.settings])
  causes := .of_same rfl rfl

theorem claimReacts (b : Bool) (r : Record) (cs : List EntryChange) (s : State) : Follows s (claimReacts b r cs s) :=
  ⟨rfl, rfl, .of_same rfl rfl⟩

theorem selfDeparts (s : State) : Follows s (selfDeparts s) where
  host := rfl
  settings := congrArg (Settings.mk _ _ _) (funext fun n => by rw [selfDeparts_lines, lineDeparts_settings])
  causes := .of_same rfl rfl

/-! ### Changes of station state -/

theorem changeState (new : StationState) (s : State) : Follows s (changeState new s) where
  host := ((SameHostSide.changeState new).mpr (.refl s)).hostSide
  settings := by
    obtain ⟨-, -, hclaim, -, -⟩ := changeState_frame new s
    by_cases hnew : new = .member ∨ new = .departing
    · rcases hnew with rfl | rfl
      · rw [changeState_member]
        exact ((originEnters (Machine.markState .member (leaveState s))).trans (updateWant _)).settings.trans
          (settings_of_blocks (by simp) (by simp))
      · exact (settings_of_blocks (changeState_origin_departing s) hclaim).trans (stopServiceTimers s).settings
    · push Not at hnew
      exact settings_of_blocks (changeState_origin s hnew) hclaim
  causes := .raised (by rw [(changeState_frame new s).2.2.2.1])

theorem enterDeparting (c : DepartingCause) (s : State) : Follows s (enterDeparting c s) :=
  (changeState .departing s).trans (setControl _ rfl)

theorem startBackoff (f : FollowOn) (s : State) : Follows s (startBackoff f s) := setControl s rfl

theorem listenWithBackoff (s : State) : Follows s (listenWithBackoff s) := (startBackoff _ s).trans (changeState _ _)

theorem joinTimedOut (s : State) : Follows s (joinTimedOut s) :=
  (changeState .listen s).trans ((setControl (c := { (Machine.changeState .listen s).control with note := some 0 }) _ rfl).trans
    (postFault _ _ _ _ _ _))

theorem leaveEnds (s : State) : Follows s (leaveEnds s) := (postCompletions _ s).trans (changeState _ _)

theorem ownDeparture (c : DepartureCause) (s : State) : Follows s (ownDeparture c s) := by
  unfold Machine.ownDeparture
  split
  · split
    · exact (selfDeparts s).trans (leaveEnds _)
    all_goals exact (postFault _ _ _ _ _ s).trans ((selfDeparts _).trans (leaveEnds _))
  · exact (postFault _ _ _ _ _ s).trans ((selfDeparts _).trans (listenWithBackoff _))

theorem settleState (a b c d : Bool) (s : State) : Follows s (settleState a b c d s) := by
  rcases settleState_cases s a b c d with ⟨-, k, heq, -⟩ | ⟨-, ⟨-, -, heq⟩ | ⟨-, heq⟩⟩ <;> rw [heq]
  · exact enterDeparting k s
  · exact changeState _ s
  · exact refl s

/-! ### The end of an attempt -/

theorem judgementReacted (x : Seen) (j : Judgement) (lost : Bool) (s : State) :
    Follows s (judgementReacted x j lost s) := by
  have hcount : ∀ u, Follows u (if x.isSender then Machine.countSent j.took u else u) := by
    intro u
    split
    · exact countSent _ u
    · exact refl u
  exact (setRecord _ s).trans ((postDepartures _ _).trans ((postOwnPlace _ _ _).trans ((hcount _).trans
    ((claimReacts _ _ _ _).trans ((foldl (originReacts _) _ _).trans
      ((postRetryLimit _ _).trans (updateBeacon _ _ _)))))))

theorem memberJudges (a : Attempt) (r : Record) (s : State) : Follows s (memberJudges a r s) := by
  cases hown : (judge s.number (seenOf s.number a) r).own with
  | some cause =>
    rw [memberJudges_of_own hown]
    exact (setRecord _ s).trans ((postDepartures _ _).trans (ownDeparture _ _))
  | none =>
    rw [memberJudges_of_stays hown]
    exact (judgementReacted _ _ _ s).trans ((settleState _ _ _ _ _).trans ((updateDuty _).trans (updateWant _)))

theorem departingEnds (a : Attempt) (s : State) : Follows s (departingEnds a s) := by
  unfold Machine.departingEnds
  split
  · split
    · exact (selfDeparts s).trans (leaveEnds _)
    all_goals exact (selfDeparts s).trans (listenWithBackoff _)
  · dsimp only
    split
    · exact (dropSent s).trans (setControl _ rfl)
    · exact setControl s rfl

theorem foundingMarked (a : Attempt) (s : State) : Follows s (foundingMarked a s) := by
  rw [foundingMarked_eq]
  exact setControl s rfl

theorem foundingEnds (a : Attempt) (s : State) : Follows s (foundingEnds a s) := by
  have hmarked := foundingMarked a s
  by_cases hfound : ∃ f ∈ a.driven, ∃ p, f.body = .found p
  · obtain ⟨f, hd, p, hb⟩ := hfound
    rw [foundingEnds_found hd hb]
    split
    · exact hmarked.trans ((setRecord _ _).trans (changeState .member _))
    · split
      · exact hmarked.trans ((countSent _ _).trans ((changeState .listen _).trans (postFault _ _ _ _ _ _)))
      · exact hmarked.trans (countSent _ _)
  · push Not at hfound
    rw [foundingEnds_other hfound]
    exact hmarked

theorem replyHeard (f : Frame) (v : Verdict) (n : Nat) (p : Params) (s : State) : Follows s (replyHeard f v n p s) := by
  cases v
  case admitted => exact (setRecord _ s).trans (changeState .syncing _)
  case deferred => exact (setControl (c := { s.control with joinReply := none }) s rfl).trans ((dropPurposes _ _).trans (startBackoff _ _))
  case mismatch | duplicate => exact (changeState .isolated s).trans (postFault _ _ _ _ _ _)

theorem joiningEnds (a : Attempt) (s : State) : Follows s (joiningEnds a s) := by
  by_cases hjoin : ∃ f ∈ a.driven, ∃ p, f.body = .join p
  · obtain ⟨f, hd, p, hb⟩ := hjoin
    rw [joiningEnds_join hd hb]
    split
    · exact (dropPurposes _ s).trans (setControl _ rfl)
    · split
      · exact (countSent _ s).trans (joinTimedOut _)
      · exact countSent _ s
  · push Not at hjoin
    rcases joiningEnds_other hjoin s with heq | ⟨f, v, count, m, p, -, -, -, -, heq⟩ <;> rw [heq]
    · exact refl s
    · exact replyHeard _ _ _ _ s

theorem listenObserves (head : Option Frame) (s : State) : Follows s (listenObserves head s) := by
  unfold Machine.listenObserves
  dsimp only
  split
  · split
    · exact setControl s rfl
    · exact refl s
  · split
    · exact setControl s rfl
    · exact changeState .joining s
    · split
      · exact setControl s rfl
      · exact changeState .joining s

theorem attemptObserved (a : Attempt) (s : State) : Follows s (attemptObserved a s) := by
  unfold Machine.attemptObserved
  split
  case h_1 | h_2 | h_3 =>
    split
    · exact memberJudges a _ s
    · exact refl s
  case h_4 => exact departingEnds a s
  case h_5 => exact foundingEnds a s
  case h_6 => exact joiningEnds a s
  case h_7 => exact listenObserves _ s
  all_goals exact refl s

theorem finishAttempt (ws : List Word16) (a : Attempt) (s : State) : Follows s (finishAttempt ws a s) := by
  have hlast : ∀ u, Follows u (if a.driven.isSome then Machine.clearSent u else u) := by
    intro u
    split
    · exact clearSent u
    · exact refl u
  unfold Machine.finishAttempt
  split
  · exact of_port rfl rfl rfl rfl rfl rfl
  · exact (setBus _ s).trans ((restartIdle _).trans ((attemptObserved _ _).trans ((postDuplicate _ _).trans
      ((hlast _).trans (updateRequest _)))))

/-! ### Arbitration and the timers -/

theorem arbitrationCloses (lines : Sampling) (s : State) : Follows s (arbitrationCloses lines s) := by
  have hreplaced : Follows s (foundReplaced s) := by
    unfold foundReplaced
    split
    · exact changeState .joining s
    · exact refl s
  unfold Machine.arbitrationCloses
  dsimp only
  split
  · exact setBus _ s
  · split
    · exact hreplaced.trans ((agendaGrants _).trans (setBus _ _))
    · exact setBus _ s

theorem backoffEnds (noted : Bool) (f : FollowOn) (s : State) : Follows s (backoffEnds noted f s) := by
  unfold Machine.backoffEnds
  split
  · split
    · exact changeState .joining s
    · exact setControl s rfl
  · split
    · exact addPurpose _ s
    · exact refl s
  all_goals exact refl s

theorem addRevoke (x : Source) (h : Option Handle) (s : State) : Follows s (addRevoke x h s) := by
  unfold Machine.addRevoke
  split
  · exact refl s
  · split
    · exact refl s
    · exact addPurpose _ s

end Follows

end Sys2Proof.Machine
end


section
/-! What each command leaves as it was (R22, R117, R148, R152 to R155, R161, R166 to R168). -/

set_option Elab.async false

namespace Sys2Proof.Machine

namespace Follows

variable {s : State}

/-! ### The host's commands -/

theorem takeCommand (code : Word32) (s : State) : Follows s (takeCommand code s) := ⟨rfl, rfl, .of_same rfl rfl⟩

theorem answerHost (a b c d : Word32) (s : State) : Follows s (answerHost a b c d s) := ⟨rfl, rfl, .of_same rfl rfl⟩

theorem answerCode (a : Word32) (s : State) : Follows s (answerCode a s) := answerHost a 0 0 0 s

theorem restartFrom (s : State) : Follows s (restartFrom s) := by
  unfold Machine.restartFrom
  cases s.control.state
  case offline => exact refl s
  case member | syncing => exact enterDeparting _ s
  case leaving => exact (postCompletions _ s).trans (enterDeparting _ _)
  case departing =>
    dsimp only
    split
    · exact (postCompletions _ s).trans (setControl _ rfl)
    · exact setControl s rfl
  case isolated =>
    exact (setControl (c := { s.control with note := none }) s rfl).trans ((setBus _ _).trans (listenWithBackoff _))
  case listen | founding | joining =>
    exact (setControl (c := { s.control with note := none }) s rfl).trans (listenWithBackoff _)

theorem commandRestart (s : State) : Follows s (commandRestart s) := by
  unfold Machine.commandRestart
  split
  · exact answerCode _ s
  · exact (restartFrom s).trans ((updateRequest _).trans (answerCode _ _))

theorem leaveFrom (s : State) : Follows s (leaveFrom s) := by
  unfold Machine.leaveFrom
  cases s.control.state
  case member | syncing => exact (changeState .leaving s).trans (addPurpose _ _)
  case departing => exact setControl s rfl
  case listen | founding | joining | isolated => exact leaveEnds s
  case offline | leaving => exact refl s

theorem commandLeave (s : State) : Follows s (commandLeave s) := by
  unfold Machine.commandLeave
  split
  · exact answerCode _ s
  · split
    · exact answerCode _ s
    · exact (reserve s).trans ((leaveFrom _).trans ((updateRequest _).trans (answerCode _ _)))

theorem commandPause (paused : Bool) (s : State) :
    Follows (s.setClaim { s.claim with paused := paused }) (commandPause paused s) :=
  (updateWant _).trans ((updateRequest _).trans (answerCode _ _))

theorem setGrants (gs : List Grant) (s : State) : Follows s (s.setClaim { s.claim with grants := gs }) :=
  ⟨rfl, rfl, .of_same rfl rfl⟩

theorem commandReadGrant (s : State) : Follows s (commandReadGrant s) := by
  unfold Machine.commandReadGrant
  split
  · exact answerCode _ s
  · split
    · exact answerCode _ s
    · exact ⟨rfl, rfl, .of_same rfl rfl⟩

theorem commandFinish (s : State) : Follows s (commandFinish s) := by
  unfold Machine.commandFinish
  split
  · exact answerCode _ s
  · split
    · exact answerCode _ s
    · split
      · exact (setGrants _ s).trans ((addPurpose _ _).trans ((updateRequest _).trans (answerCode _ _)))
      · exact answerCode _ s

theorem raiseAccepted (id : RaiseId) (a : RaiseArgs) (s : State) : Follows s (raiseAccepted id a s) := by
  have hset : Follows s (raiseHeld id a s) := ⟨rfl, rfl, .of_same rfl rfl⟩
  unfold Machine.raiseAccepted
  dsimp only
  split
  · exact hset.trans (addPurpose _ _)
  · exact hset

theorem commandRaise (s : State) : Follows s (commandRaise s) := by
  unfold Machine.commandRaise
  dsimp only
  split
  · exact answerCode _ s
  · split
    · exact answerCode _ s
    · split
      · exact answerCode _ s
      · exact (raiseAccepted _ _ s).trans ((updateRequest _).trans (answerHost _ _ _ _ _))

theorem commandEnableLine (s : State) : Follows s (commandEnableLine s) := by
  unfold Machine.commandEnableLine
  split
  · exact answerCode _ s
  · split
    · exact changeLine_then ((evaluateLine _ _).trans ((updateRequest _).trans (answerCode _ _))) fun _ => rfl
    · exact answerCode _ s

theorem commandReadCompletion (s : State) : Follows s (commandReadCompletion s) := by
  unfold Machine.commandReadCompletion
  split
  · exact answerCode _ s
  · exact ⟨rfl, rfl, .of_same rfl rfl⟩

theorem commandReadFault (s : State) : Follows s (commandReadFault s) := by
  unfold Machine.commandReadFault
  split
  · exact answerCode _ s
  · exact ⟨rfl, rfl, .of_same rfl rfl⟩

theorem commandInspect (s : State) : Follows s (commandInspect s) := by
  unfold Machine.commandInspect
  split
  · exact answerCode _ s
  · split
    · exact answerHost _ _ _ _ s
    · exact answerCode _ s

/-- START locks the store before all else it does (R98). -/
theorem commandStart (s : State) : ∃ u, Follows u (commandStart s) ∧
    (u = s ∨ u = setStore (fun c => { c with locked := true }) s) := by
  unfold Machine.commandStart
  split
  · exact ⟨s, answerCode _ s, .inl rfl⟩
  · split
    · exact ⟨s, answerCode _ s, .inl rfl⟩
    · exact ⟨_, (setBus _ _).trans ((changeState .listen _).trans (answerCode _ _)), .inr rfl⟩

/-! ### The other events -/

theorem inputChanges (n : Line) (level : Bool) (s : State) :
    ∃ m, Follows (s.setOrigin { s.origin with levels := m }) (inputChanges n level s) := by
  unfold Machine.inputChanges
  split
  · exact ⟨_, refl s⟩
  · exact ⟨_, lineEvent n level _⟩

end Follows

/-! ### SET -/

/-- SET changes nothing but the store, the lines and the filters (R155). -/
theorem setItem_keeps (i x v : Nat) (s : State) :
    { (setItem i x v s).hostSide with store := s.port.store } = s.hostSide ∧
    { (setItem i x v s).settings with filters := s.claim.filters, lines := s.settings.lines } = s.settings ∧
    (setItem i x v s).port.store.locked = s.port.store.locked ∧ Causes s (setItem i x v s) := by
  unfold setItem
  split <;> exact ⟨rfl, rfl, rfl, .of_same rfl rfl⟩

/-! ### Every command -/

/-- What a command other than a reset leaves as it was, unless it is its own to change. -/
structure CommandKeeps (c : Instr) (s t : State) : Prop where
  number : t.number = s.number
  pending : t.pending = s.pending
  clock : t.port.clock = s.port.clock
  args : (∀ loc v, c ≠ .windowWrite loc v) → t.port.arg0 = s.port.arg0 ∧ t.port.arg1 = s.port.arg1 ∧
    t.port.arg2 = s.port.arg2 ∧ t.port.arg3 = s.port.arg3
  mask : (∀ v, c ≠ .irqMaskWrite v) → t.port.mask = s.port.mask
  levels : (∀ n level, c ≠ .eventLineChange n level) → t.origin.levels = s.origin.levels
  paused : c ≠ .pause → c ≠ .resume → t.claim.paused = s.claim.paused
  locked : c ≠ .start → t.port.store.locked = s.port.store.locked
  store : c ≠ .set → { t.port.store with locked := false } = { s.port.store with locked := false }
  filters : c ≠ .set → t.claim.filters = s.claim.filters
  lines : c ≠ .set → ∀ n : Line, t.origin.lines[n].settings = s.origin.lines[n].settings
  window : hostCode c = none → t.port.command = s.port.command ∧ t.port.result0 = s.port.result0 ∧
    t.port.result1 = s.port.result1 ∧ t.port.result2 = s.port.result2 ∧ t.port.result3 = s.port.result3
  moved : t.control.state ≠ s.control.state → t.port.stateCause = true
  cause : c ≠ .status → s.port.stateCause = true → t.port.stateCause = true

namespace CommandKeeps

variable {c : Instr} {s t : State}

/-- A host's command, or any other that leaves COMMAND and the result words alone. -/
theorem of_follows (h : Follows s t) (hwindow : hostCode c = none → SameHostSide s t) : CommandKeeps c s t where
  number := congrArg HostSide.number h.host
  pending := congrArg HostSide.pending h.host
  clock := congrArg HostSide.clock h.host
  args _ := ⟨congrArg HostSide.arg0 h.host, congrArg HostSide.arg1 h.host, congrArg HostSide.arg2 h.host,
    congrArg HostSide.arg3 h.host⟩
  mask _ := congrArg HostSide.mask h.host
  levels _ := congrArg Settings.levels h.settings
  paused _ _ := congrArg Settings.paused h.settings
  locked _ := congrArg (fun x => x.store.locked) h.host
  store _ := congrArg (fun x => { x.store with locked := false }) h.host
  filters _ := congrArg Settings.filters h.settings
  lines _ n := congrFun (congrArg Settings.lines h.settings) n
  window hc := ⟨(hwindow hc).command, (hwindow hc).result0, (hwindow hc).result1, (hwindow hc).result2,
    (hwindow hc).result3⟩
  moved := h.causes.moved
  cause _ := h.causes.kept

theorem of_host {code : Word32} (hc : hostCode c = some code) (h : Follows s t) : CommandKeeps c s t :=
  of_follows h fun hno => absurd (hc.symm.trans hno) nofun

theorem of_event (h : Follows s t) (hwindow : SameHostSide s t) : CommandKeeps c s t := of_follows h fun _ => hwindow

/-- START changes the lock, and no other command of the host does. -/
theorem start (s : State) : CommandKeeps .start s (commandStart (takeCommand 2 s)) := by
  obtain ⟨u, h, rfl | rfl⟩ := Follows.commandStart (takeCommand 2 s)
  · exact of_host rfl ((Follows.takeCommand 2 s).trans h)
  · have k : CommandKeeps .start _ _ := of_host rfl h
    exact ⟨k.number, k.pending, k.clock, k.args, k.mask, k.levels, k.paused, fun hno => absurd rfl hno, k.store, k.filters,
      k.lines, nofun, k.moved, k.cause⟩

theorem set (s : State) : CommandKeeps .set s (commandSet (takeCommand 1 s)) := by
  have hrefused : ∀ r, CommandKeeps .set s (answerCode r (takeCommand 1 s)) := fun r =>
    of_host rfl ((Follows.takeCommand 1 s).trans (.answerCode r _))
  unfold commandSet
  split
  · exact hrefused _
  · split
    · exact hrefused _
    · obtain ⟨hhost, hsettings, hlocked, hcauses⟩ := setItem_keeps (arg0 (takeCommand 1 s)) (arg1 (takeCommand 1 s))
        (arg2 (takeCommand 1 s)) (takeCommand 1 s)
      exact ⟨congrArg HostSide.number hhost, congrArg HostSide.pending hhost, congrArg HostSide.clock hhost,
        fun _ => ⟨congrArg HostSide.arg0 hhost, congrArg HostSide.arg1 hhost, congrArg HostSide.arg2 hhost,
          congrArg HostSide.arg3 hhost⟩,
        fun _ => congrArg HostSide.mask hhost, fun _ => congrArg Settings.levels hsettings,
        fun _ _ => congrArg Settings.paused hsettings, fun _ => hlocked, fun hno => absurd rfl hno,
        fun hno => absurd rfl hno, fun hno => absurd rfl hno, nofun, hcauses.moved, fun _ => hcauses.kept⟩

theorem pause {paused : Bool} {code : Word32} (hc : c = .pause ∨ c = .resume) :
    CommandKeeps c s (commandPause paused (takeCommand code s)) := by
  have hcode : ∃ k, hostCode c = some k := by rcases hc with rfl | rfl <;> exact ⟨_, rfl⟩
  obtain ⟨k, hk⟩ := hcode
  have h : CommandKeeps c _ _ := of_host hk (Follows.commandPause paused (takeCommand code s))
  exact ⟨h.number, h.pending, h.clock, h.args, h.mask, h.levels, fun h1 h2 => absurd hc (by simp [h1, h2]), h.locked,
    h.store, h.filters, h.lines, fun hno => absurd (hk.symm.trans hno) nofun, h.moved, h.cause⟩

theorem status (s : State) : CommandKeeps .status s (commandStatus (takeCommand 14 s)) :=
  ⟨rfl, rfl, rfl, fun _ => ⟨rfl, rfl, rfl, rfl⟩, fun _ => rfl, fun _ => rfl, fun _ _ => rfl, fun _ => rfl, fun _ => rfl,
    fun _ => rfl, fun _ _ => rfl, nofun, fun hne => absurd rfl hne, fun hno => absurd rfl hno⟩

theorem irqMaskWrite (v : Word32) (s : State) : CommandKeeps (.irqMaskWrite v) s (writeMask v s) :=
  ⟨rfl, rfl, rfl, fun _ => ⟨rfl, rfl, rfl, rfl⟩, fun hno => absurd rfl (hno v), fun _ => rfl, fun _ _ => rfl,
    fun _ => rfl, fun _ => rfl, fun _ => rfl, fun _ _ => rfl, fun _ => ⟨rfl, rfl, rfl, rfl, rfl⟩, fun hne => absurd rfl hne,
    fun _ => id⟩

end CommandKeeps

end Sys2Proof.Machine
end


section
/-! Every command completes; what it changes is its own to change (R22, R97, R117, R148, R152, R155, R161, R166 to
R168). -/

set_option Elab.async false

namespace Sys2Proof.Machine

/-! ### The events of the bus and the timers -/

/-- What an event changes neither in what it keeps nor in the window. -/
def Quiet (s t : State) : Prop := Follows s t ∧ SameHostSide s t

namespace Quiet

theorem refl (s : State) : Quiet s s := ⟨.refl s, .refl s⟩

theorem trans {s t u : State} (h : Quiet s t) (k : Quiet t u) : Quiet s u := ⟨h.1.trans k.1, h.2.trans k.2⟩

theorem updateRequest (s : State) : Quiet s (updateRequest s) := ⟨.updateRequest s, by simp⟩

theorem setBus (b : Bus) (s : State) : Quiet s (s.setBus b) := ⟨.setBus b s, by simp⟩

theorem setControl {c : Control} {s : State} (h : c.state = s.control.state) : Quiet s (s.setControl c) :=
  ⟨.setControl s h, by simp⟩

theorem setAgenda (x : Agenda) (s : State) : Quiet s (s.setAgenda x) := ⟨.of_port rfl rfl rfl rfl rfl rfl, by simp⟩

theorem addPurpose (a : Aim) (s : State) : Quiet s (addPurpose a s) := ⟨.addPurpose a s, by simp⟩

theorem changeState (new : StationState) (s : State) : Quiet s (changeState new s) := ⟨.changeState new s, by simp⟩

theorem addRevoke (x : Source) (h : Option Handle) (s : State) : Quiet s (addRevoke x h s) := by
  refine ⟨.addRevoke x h s, ?_⟩
  unfold Machine.addRevoke
  split
  · exact .refl s
  · split
    · exact .refl s
    · simp

theorem changeLine_then {n : Line} {f : LineRecord → LineRecord} {s t : State}
    (k : Quiet (Machine.changeLine n f s) t) (hf : ∀ l, (f l).settings = l.settings) : Quiet s t :=
  ⟨k.1.changeLine_then hf, ((SameHostSide.changeLine n f).mpr (.refl s)).trans k.2⟩

theorem changeRaise (id : RaiseId) (f : RaiseRecord → RaiseRecord) (s : State) : Quiet s (changeRaise id f s) :=
  ⟨.changeRaise id f s, by simp⟩

theorem backoffEnds (noted : Bool) (f : FollowOn) (s : State) : Quiet s (backoffEnds noted f s) := by
  refine ⟨.backoffEnds noted f s, ?_⟩
  unfold Machine.backoffEnds
  (repeat' split) <;> simp

theorem arbitrationCloses (lines : Sampling) (s : State) : Quiet s (arbitrationCloses lines s) := by
  refine ⟨.arbitrationCloses lines s, ?_⟩
  have hgrants : ∀ u : State, SameHostSide u (agendaGrants u) := fun u => .of_port (by simp) (by simp) (by simp)
  have hreplaced : SameHostSide s (foundReplaced s) := by
    unfold foundReplaced
    split <;> simp
  unfold Machine.arbitrationCloses
  dsimp only
  split
  · simp
  · split
    · exact (SameHostSide.setBus _).mpr (hreplaced.trans (hgrants _))
    · exact (SameHostSide.setBus _).mpr (.refl s)

theorem finishAttempt (ws : List Word16) (a : Attempt) (s : State) : Quiet s (finishAttempt ws a s) := by
  refine ⟨.finishAttempt ws a s, ?_⟩
  unfold Machine.finishAttempt
  split
  · exact .of_port rfl rfl rfl
  · simp

end Quiet

/-- A code that names no command (R153). -/
theorem writeCommand_unknown {code : Word32} (h : wellFormed (.unknownCommand code) = true) (s : State) :
    writeCommand code s = answerCode codeBadArg (takeCommand code s) := by
  have hcode : code.toNat = 0 ∨ 14 < code.toNat := by simpa [wellFormed] using h
  unfold writeCommand
  dsimp only
  split
  case h_15 => rfl
  all_goals omega

namespace CommandKeeps

variable {c : Instr} {s t : State}

theorem of_quiet (h : Quiet s t) : CommandKeeps c s t := of_event h.1 h.2

theorem eventLineChange (n : Line) (level : Bool) (s : State) :
    CommandKeeps (.eventLineChange n level) s (updateRequest (inputChanges n level s)) := by
  obtain ⟨m, h⟩ := Follows.inputChanges n level s
  have hwindow := (SameHostSide.of_port (s := s.setOrigin { s.origin with levels := m }) (t := s) rfl rfl rfl).trans
    (Reacts.inputChanges n level s).host
  have k : CommandKeeps (.eventLineChange n level) _ _ := of_quiet (Quiet.trans ⟨h, hwindow⟩ (.updateRequest _))
  exact ⟨k.number, k.pending, k.clock, k.args, k.mask, fun hno => absurd rfl (hno n level), k.paused, k.locked, k.store,
    k.filters, k.lines, k.window, k.moved, k.cause⟩

theorem windowWrite {loc : Fin 16} (v : Word32) (h0 : loc ≠ 0) (h11 : loc ≠ 11) (s : State) :
    CommandKeeps (.windowWrite loc v) s (writeWindow loc v s) := by
  have hport : ∀ p : Port, p.mask = s.port.mask → p.clock = s.port.clock → p.store = s.port.store →
      p.command = s.port.command → p.result0 = s.port.result0 → p.result1 = s.port.result1 →
      p.result2 = s.port.result2 → p.result3 = s.port.result3 → p.stateCause = s.port.stateCause →
      CommandKeeps (.windowWrite loc v) s (s.setPort p) := fun p hm hc hs hcm h0 h1 h2 h3 hcause =>
    ⟨rfl, rfl, hc, fun hno => absurd rfl (hno loc v), fun _ => hm, fun _ => rfl, fun _ _ => rfl,
      fun _ => congrArg Store.locked hs, fun _ => congrArg (fun x => { x with locked := false }) hs, fun _ => rfl,
      fun _ _ => rfl, fun _ => ⟨hcm, h0, h1, h2, h3⟩, fun hne => absurd rfl hne, fun _ h => hcause.trans h⟩
  unfold writeWindow
  split
  case h_1 h => exact absurd (Fin.ext h) h0
  case h_6 h => exact absurd (Fin.ext h) h11
  case h_7 => exact of_quiet (.refl s)
  all_goals exact hport _ rfl rfl rfl rfl rfl rfl rfl rfl rfl

theorem unknownCommand {code : Word32} (h : wellFormed (.unknownCommand code) = true) (s : State) :
    CommandKeeps (.unknownCommand code) s (writeCommand code s) := by
  rw [writeCommand_unknown h]
  exact of_host rfl ((Follows.takeCommand code s).trans (.answerCode _ _))

/-- Every well-formed command but a reset. -/
theorem exec (hwf : wellFormed c = true) (hreset : ∀ n, c ≠ .powerOnReset n) (ht : exec c s = .next t) :
    CommandKeeps c s t := by
  cases c
  all_goals
    change Host.Outcome.next _ = _ at ht
    cases ht
  case powerOnReset n => exact absurd rfl (hreset n)
  case set => exact set s
  case start => exact start s
  case restart => exact of_host rfl ((Follows.takeCommand _ s).trans (.commandRestart _))
  case leave => exact of_host rfl ((Follows.takeCommand _ s).trans (.commandLeave _))
  case pause => exact pause (.inl rfl)
  case resume => exact pause (.inr rfl)
  case readGrant => exact of_host rfl ((Follows.takeCommand _ s).trans (.commandReadGrant _))
  case finish => exact of_host rfl ((Follows.takeCommand _ s).trans (.commandFinish _))
  case raise => exact of_host rfl ((Follows.takeCommand _ s).trans (.commandRaise _))
  case enableLine => exact of_host rfl ((Follows.takeCommand _ s).trans (.commandEnableLine _))
  case readCompletion => exact of_host rfl ((Follows.takeCommand _ s).trans (.commandReadCompletion _))
  case readFault => exact of_host rfl ((Follows.takeCommand _ s).trans (.commandReadFault _))
  case inspect => exact of_host rfl ((Follows.takeCommand _ s).trans (.commandInspect _))
  case status => exact status s
  case unknownCommand code => exact unknownCommand hwf s
  case irqMaskWrite v => exact irqMaskWrite v s
  case windowWrite loc v =>
    simp only [wellFormed, Bool.and_eq_true, bne_iff_ne] at hwf
    exact windowWrite v hwf.1 hwf.2 s
  case eventLineChange n level => exact eventLineChange n level s
  all_goals refine of_quiet ?_
  case busAtRest =>
    split
    · exact (Quiet.setBus _ s).trans (.updateRequest _)
    · exact .refl s
  case arbitrationOpen others =>
    split
    · exact .setBus _ s
    · exact .refl s
  case arbitrationClose lines =>
    split
    · exact (Quiet.arbitrationCloses lines s).trans (.updateRequest _)
    · exact .refl s
  case frameEnd words =>
    split
    · exact .refl s
    · split
      · exact .refl s
      · exact .setBus _ s
  case attemptEnd =>
    split
    · exact .refl s
    · split
      · exact .finishAttempt _ _ s
      · exact .refl s
  case attemptBroken =>
    split
    · exact .refl s
    · exact .finishAttempt _ _ s
  case idleTimerExpiry =>
    split
    · refine Quiet.trans ?_ (.updateRequest _)
      split
      · exact (Quiet.setAgenda _ s).trans (.addPurpose _ _)
      · exact .setAgenda _ s
    · exact .refl s
  case departingWaitExpiry =>
    split
    · exact (Quiet.setControl (c := { s.control with wait := none }) rfl).trans ((Quiet.addPurpose _ _).trans (.updateRequest _))
    · exact .refl s
  case quietTimerExpiry =>
    split
    · exact (Quiet.changeState _ s).trans (.updateRequest _)
    · exact .refl s
  case joinReplyTimerExpiry =>
    split
    · exact Quiet.trans ⟨.joinTimedOut s, by simp⟩ (.updateRequest _)
    · exact .refl s
  case backoffTimerExpiry =>
    split
    · exact .refl s
    · exact (Quiet.setControl (c := { s.control with backoff := none, headNoted := false }) rfl).trans
        ((Quiet.backoffEnds _ _ _).trans (.updateRequest _))
  case setAsideTimerExpiry age =>
    split
    · exact (Quiet.setAgenda _ s).trans (.updateRequest _)
    · exact .refl s
  case serviceTimerExpiry source =>
    split
    · split
      · exact .changeLine_then ((Quiet.addRevoke _ _ _).trans (.updateRequest _)) fun _ => rfl
      · exact .refl s
    · split
      · exact .refl s
      · split
        · exact (Quiet.changeRaise _ _ s).trans ((Quiet.addRevoke _ _ _).trans (.updateRequest _))
        · exact .refl s

end CommandKeeps

end Sys2Proof.Machine
end


section
/-! The window, the host's commands, and HOST_IRQ (9.1, 9.2, 9.8). -/

set_option Elab.async false

namespace Sys2Proof.Machine

/-! ### Every command completes -/

theorem exec_completes (c : Instr) (s : State) : ∃ t, exec c s = .next t := by
  cases c <;> exact ⟨_, rfl⟩

theorem writeCommand_pending (code : Word32) (s : State) : (writeCommand code s).pending = s.pending := by
  have hfollows : ∀ {t}, Follows (takeCommand code s) t → t.pending = s.pending := fun h =>
    congrArg HostSide.pending h.host
  unfold writeCommand
  dsimp only
  split
  case h_1 =>
    unfold commandSet
    split
    · rfl
    · split
      · rfl
      · exact congrArg HostSide.pending (setItem_keeps _ _ _ (takeCommand code s)).1
  case h_2 =>
    obtain ⟨u, h, rfl | rfl⟩ := Follows.commandStart (takeCommand code s) <;> exact congrArg HostSide.pending h.host
  case h_3 => exact hfollows (.commandRestart _)
  case h_4 => exact hfollows (.commandLeave _)
  case h_5 | h_6 => exact congrArg HostSide.pending (Follows.commandPause _ _).host
  case h_7 => exact hfollows (.commandReadGrant _)
  case h_8 => exact hfollows (.commandFinish _)
  case h_9 => exact hfollows (.commandRaise _)
  case h_10 => exact hfollows (.commandEnableLine _)
  case h_11 => exact hfollows (.commandReadCompletion _)
  case h_12 => exact hfollows (.commandReadFault _)
  case h_13 => exact hfollows (.commandInspect _)
  case h_14 | h_15 => rfl

theorem writeWindow_pending (loc : Fin 16) (v : Word32) (s : State) : (writeWindow loc v s).pending = s.pending := by
  unfold writeWindow
  split
  · exact writeCommand_pending v s
  all_goals rfl

/-- The commands that wait are left by every command, ill formed or not. -/
theorem exec_pending {c : Instr} {s t : State} (h : exec c s = .next t) : t.pending = s.pending := by
  by_cases hwf : wellFormed c = true
  · by_cases hreset : ∃ n, c = .powerOnReset n
    · obtain ⟨n, rfl⟩ := hreset
      cases h
      rfl
    · push Not at hreset
      exact (CommandKeeps.exec hwf hreset h).pending
  · cases c
    case unknownCommand code =>
      cases h
      exact writeCommand_pending code s
    case windowWrite loc v =>
      cases h
      exact writeWindow_pending loc v s
    case attemptBroken strobed =>
      change Host.Outcome.next _ = _ at h
      cases h
      split
      · rfl
      · exact (Quiet.finishAttempt _ _ s).2.pending
    all_goals exact absurd rfl hwf

/-! ### Writes to the other locations (R152) -/

theorem argLocation_cases : ∀ loc : Fin 16, 1 ≤ loc.val ∧ loc.val ≤ 4 → loc = 1 ∨ loc = 2 ∨ loc = 3 ∨ loc = 4 := by
  decide

theorem writeWindow_ignored {loc : Fin 16} (h0 : loc ≠ 0) (h11 : loc ≠ 11) (harg : ¬(1 ≤ loc.val ∧ loc.val ≤ 4))
    (v : Word32) (s : State) : writeWindow loc v s = s := by
  unfold writeWindow
  split
  case h_1 h => exact absurd (Fin.ext h) h0
  case h_6 h => exact absurd (Fin.ext h) h11
  case h_7 => rfl
  all_goals omega

/-! ### HOST_IRQ and its window words -/

theorem setWidth_eq_append (x : BitVec 4) : x.setWidth 32 = 0#28 ++ x := by
  revert x
  decide

theorem and_ne_zero_iff (x y : BitVec 4) : (x &&& y != 0) = true ↔ ∃ i : Fin 4,
    (x.setWidth 32).getLsbD i.val = true ∧ (y.setWidth 32).getLsbD i.val = true := by
  revert x y
  decide

theorem irqCause_word (a b c d : Bool) :
    (BitVec.ofBool a ++ BitVec.ofBool b ++ BitVec.ofBool c ++ BitVec.ofBool d).setWidth 32 =
      0#28 ++ BitVec.ofBool a ++ BitVec.ofBool b ++ BitVec.ofBool c ++ BitVec.ofBool d := by
  revert a b c d
  decide

theorem causeFault_eq (s : State) : causeFault s = decide (s.port.faults ≠ []) := by
  unfold causeFault
  cases s.port.faults <;> rfl

theorem causeCompletion_eq (s : State) : causeCompletion s = decide (s.port.completions ≠ []) := by
  unfold causeCompletion
  cases s.port.completions <;> rfl

theorem causeGrant_eq (s : State) : causeGrant s = decide (∃ g ∈ s.claim.grants, g.state = .unread) := by
  simp [causeGrant, unreadCount, List.length_pos_iff_exists_mem]

end Sys2Proof.Machine

namespace Sys2Proof.Proofs

open Sys2Proof.Machine

/-- Settles O2: what each command keeps, read off command by command. -/
theorem commandsChangeOnlyWhatIsTheirs : Obligations.CommandsChangeOnlyWhatIsTheirs := by
  intro c s
  obtain ⟨t, ht⟩ := exec_completes c s
  refine ⟨t, ht, exec_pending ht, ?_, fun hreset hwf => ?_⟩
  · rintro n rfl
    cases ht
    rfl
  · have k := CommandKeeps.exec hwf hreset ht
    refine ⟨k.number, k.clock, k.levels, k.paused, k.locked, fun hset => ⟨k.store hset, k.filters hset, fun n => ?_⟩⟩
    simpa only [LineRecord.settings, LineRecord.mk.injEq, true_and, and_true] using k.lines hset n

/-- Settles O4: location by location. -/
theorem windowLocationsChangeByTheirWrites : Obligations.WindowLocationsChangeByTheirWrites := by
  refine ⟨fun loc v s h0 h11 => ?_, fun c s t hwf hreset ht => ?_⟩
  · refine ⟨writeWindow loc v s, rfl, ?_⟩
    by_cases harg : 1 ≤ loc.val ∧ loc.val ≤ 4
    · rcases argLocation_cases loc harg with rfl | rfl | rfl | rfl <;> exact ⟨fun k => by fin_cases k <;> rfl, rfl⟩
    · rw [writeWindow_ignored h0 h11 harg]
      exact ⟨fun k => (if_neg fun h : k = loc ∧ _ => harg h.2).symm, rfl⟩
  · have k := CommandKeeps.exec hwf hreset ht
    exact ⟨k.args, k.window, k.mask⟩

/-- Settles O17: the word of the causes bit by bit, and what each command does to the STATE cause. -/
theorem hostIrqFollowsItsCauses : Obligations.HostIrqFollowsItsCauses := by
  refine ⟨fun s => ⟨?_, and_ne_zero_iff _ _, fun v => ⟨_, rfl, rfl, setWidth_eq_append _⟩⟩, fun n s => ?_,
    fun c s t hwf hreset ht => ?_⟩
  · rw [← causeFault_eq, ← causeCompletion_eq, ← causeGrant_eq]
    exact irqCause_word _ _ _ _
  · exact ⟨_, rfl, rfl, (hostIrq_congr rfl rfl).trans (show hostIrq State.reset = false by decide)⟩
  · have k := CommandKeeps.exec hwf hreset ht
    exact ⟨k.moved, fun hcause hc => k.cause hc hcause⟩

end Sys2Proof.Proofs
end


section
/-! The answers of the host's commands (R153, R154). -/

set_option Elab.async false

namespace Sys2Proof.Machine

/-- What the answer of a command is: the code in COMMAND, one of the eight results, and with a refusal nothing else
changed (R153). -/
structure Replies (code : Word32) (s t : State) : Prop where
  command : t.port.command = code
  result_pos : 1 ≤ t.port.result0.toNat
  result_le : t.port.result0.toNat ≤ 8
  refused : t.port.result0 ≠ 1 → t = answered code t.port.result0 0 0 0 s

namespace Replies

variable {code : Word32} {s u : State}

theorem refuse (r : Word32) (h1 : 1 ≤ r.toNat) (h8 : r.toNat ≤ 8) :
    Replies code s (answerCode r (takeCommand code s)) := ⟨rfl, h1, h8, fun _ => rfl⟩

theorem badArg : Replies code s (answerCode codeBadArg (takeCommand code s)) := refuse _ (by decide) (by decide)

theorem refusedState : Replies code s (answerCode codeRefusedState (takeCommand code s)) :=
  refuse _ (by decide) (by decide)

theorem busy : Replies code s (answerCode codeBusy (takeCommand code s)) := refuse _ (by decide) (by decide)

theorem empty : Replies code s (answerCode codeEmpty (takeCommand code s)) := refuse _ (by decide) (by decide)

theorem accept (h : SameHostSide (takeCommand code s) u) (a b c : Word32) :
    Replies code s (answerHost codeAccepted a b c u) :=
  ⟨h.command, by change 1 ≤ codeAccepted.toNat; decide, by change codeAccepted.toNat ≤ 8; decide, fun hno => absurd rfl hno⟩

/-- An accepted command that changes nothing of the window before its answer. -/
theorem accept_of_command (h : u.port.command = code) (a b c : Word32) : Replies code s (answerHost codeAccepted a b c u) :=
  ⟨h, by change 1 ≤ codeAccepted.toNat; decide, by change codeAccepted.toNat ≤ 8; decide, fun hno => absurd rfl hno⟩

theorem setItem_command (i x v : Nat) (s : State) : (setItem i x v s).port.command = s.port.command := by
  unfold setItem
  split <;> rfl

theorem commandSet : Replies code s (commandSet (takeCommand code s)) := by
  unfold Machine.commandSet
  split
  · exact badArg
  · split
    · exact refusedState
    · exact accept_of_command (setItem_command _ _ _ (takeCommand code s)) _ _ _

theorem commandStart : Replies code s (commandStart (takeCommand code s)) := by
  unfold Machine.commandStart
  split
  · exact refusedState
  · split
    · exact refuse _ (by decide) (by decide)
    · refine accept_of_command ?_ _ _ _
      rw [(changeState_frame .listen _).2.2.2.1]
      rfl

theorem restartFrom (s : State) : SameHostSide s (restartFrom s) := by
  unfold Machine.restartFrom
  (repeat' split) <;> simp [startObserving]

theorem leaveFrom (s : State) : SameHostSide s (leaveFrom s) := by
  unfold Machine.leaveFrom
  split <;> simp

theorem commandRestart : Replies code s (commandRestart (takeCommand code s)) := by
  unfold Machine.commandRestart
  split
  · exact refusedState
  · exact accept ((SameHostSide.updateRequest).mpr (restartFrom _)) _ _ _

theorem commandLeave : Replies code s (commandLeave (takeCommand code s)) := by
  unfold Machine.commandLeave
  split
  · exact refusedState
  · split
    · exact busy
    · exact accept_of_command ((SameHostSide.updateRequest).mpr (leaveFrom (reserve (takeCommand code s)))).command _ _ _

theorem commandPause (paused : Bool) : Replies code s (commandPause paused (takeCommand code s)) :=
  accept (by simp) _ _ _

theorem commandReadGrant : Replies code s (commandReadGrant (takeCommand code s)) := by
  unfold Machine.commandReadGrant
  split
  · exact empty
  · split
    · exact busy
    · exact accept_of_command (by rfl) _ _ _

theorem commandFinish : Replies code s (commandFinish (takeCommand code s)) := by
  unfold Machine.commandFinish
  split
  · exact badArg
  · split
    · exact refuse _ (by decide) (by decide)
    · split
      · exact accept (by simp) _ _ _
      · exact refusedState

theorem commandRaise : Replies code s (commandRaise (takeCommand code s)) := by
  unfold Machine.commandRaise
  dsimp only
  split
  · exact badArg
  · split
    · exact refuse _ (by decide) (by decide)
    · split
      · exact busy
      · refine accept_of_command ?_ _ _ _
        unfold raiseAccepted
        dsimp only
        split <;> simp [reserve] <;> rfl

theorem commandEnableLine : Replies code s (commandEnableLine (takeCommand code s)) := by
  unfold Machine.commandEnableLine
  split
  · exact badArg
  · split
    · exact accept (by simp) _ _ _
    · exact refusedState

theorem commandReadCompletion : Replies code s (commandReadCompletion (takeCommand code s)) := by
  unfold Machine.commandReadCompletion
  split
  · exact empty
  · exact accept_of_command (by rfl) _ _ _

theorem commandReadFault : Replies code s (commandReadFault (takeCommand code s)) := by
  unfold Machine.commandReadFault
  split
  · exact empty
  · exact accept_of_command (by rfl) _ _ _

theorem commandInspect : Replies code s (commandInspect (takeCommand code s)) := by
  unfold Machine.commandInspect
  split
  · exact badArg
  · split
    · exact accept_of_command (by rfl) _ _ _
    · exact refusedState

theorem commandStatus : Replies code s (commandStatus (takeCommand code s)) :=
  ⟨rfl, by change 1 ≤ codeAccepted.toNat; decide, by change codeAccepted.toNat ≤ 8; decide, fun hno => absurd rfl hno⟩

theorem writeCommand (code : Word32) (s : State) : Replies code s (writeCommand code s) := by
  unfold Machine.writeCommand
  dsimp only
  split
  · exact commandSet
  · exact commandStart
  · exact commandRestart
  · exact commandLeave
  · exact commandPause _
  · exact commandPause _
  · exact commandReadGrant
  · exact commandFinish
  · exact commandRaise
  · exact commandEnableLine
  · exact commandReadCompletion
  · exact commandReadFault
  · exact commandInspect
  · exact commandStatus
  · exact badArg

end Replies

/-- A command of the host is a write of its code to COMMAND (R152). -/
theorem exec_of_hostCode {c : Instr} {code : Word32} (hc : hostCode c = some code) (s : State) :
    exec c s = .next (writeCommand code s) := by
  cases c <;> cases hc <;> rfl

end Sys2Proof.Machine

namespace Sys2Proof.Proofs

open Sys2Proof.Machine

/-- Settles O5: the answer of each command. -/
theorem refusedCommandChangesOnlyResults : Obligations.RefusedCommandChangesOnlyResults := by
  refine ⟨fun c code s t hc _ ht => ?_, fun code s hwf => ?_⟩
  · rw [exec_of_hostCode hc] at ht
    cases ht
    obtain ⟨hcommand, hpos, hle, hrefused⟩ := Replies.writeCommand code s
    exact ⟨hcommand, hpos, hle, hrefused⟩
  · exact congrArg Host.Outcome.next (writeCommand_unknown hwf s)

end Sys2Proof.Proofs
end


section
/-! RESTART, state by state (R112, R113, R157). -/

set_option Elab.async false

namespace Sys2Proof.Machine

/-- RESTART gives up a LEAVE that is held, with its completion (R112, R157). -/
def leaveGivenUp (s : State) : State :=
  if s.control.state = .leaving ∨ s.control.cause = some .leave ∧ s.control.state = .departing then
    postCompletions [.leaveAbandoned] s
  else s

/-- Outside a group the admission note is discarded, and from ISOLATED the bus must first be found at rest. -/
def listensAnew (s : State) : State :=
  let u := s.setControl { s.control with note := none }
  if s.control.state = .isolated then startObserving u else u

section

variable {s : State}

theorem leaveGivenUp_port (s : State) : (leaveGivenUp s).port =
    if s.control.state = .leaving ∨ s.control.cause = some .leave ∧ s.control.state = .departing then
      { s.port with
        completions := s.port.completions ++ [.leaveAbandoned], reserved := s.port.reserved - 1 }
    else s.port := by
  unfold leaveGivenUp
  split <;> rfl

theorem leaveGivenUp_frame (s : State) :
    (leaveGivenUp s).number = s.number ∧ (leaveGivenUp s).bus = s.bus ∧ (leaveGivenUp s).record = s.record ∧
      (leaveGivenUp s).agenda = s.agenda ∧ (leaveGivenUp s).control = s.control ∧ (leaveGivenUp s).origin = s.origin ∧
      (leaveGivenUp s).claim = s.claim := by
  unfold leaveGivenUp
  split <;> simp

/-! ### Where RESTART leads -/

theorem restartFrom_judging (h : s.control.state = .member ∨ s.control.state = .syncing ∨ s.control.state = .leaving) :
    restartFrom s = enterDeparting .restart (leaveGivenUp s) := by
  rcases h with h | h | h <;> simp [restartFrom, leaveGivenUp, h]

theorem restartFrom_departing (h : s.control.state = .departing) :
    restartFrom s = (leaveGivenUp s).setControl { s.control with cause := some .restart } := by
  have hgiven : leaveGivenUp s = if s.control.cause = some .leave then postCompletions [.leaveAbandoned] s else s := by
    simp [leaveGivenUp, h]
  rw [hgiven]
  unfold restartFrom
  rw [h]
  dsimp only
  split <;> rfl

theorem restartFrom_outside (h : s.control.state = .listen ∨ s.control.state = .founding ∨ s.control.state = .joining ∨
    s.control.state = .isolated) : restartFrom s = listenWithBackoff (listensAnew s) ∧ leaveGivenUp s = s := by
  rcases h with h | h | h | h <;> simp [restartFrom, leaveGivenUp, listensAnew, h]

theorem listensAnew_frame (s : State) :
    (listensAnew s).number = s.number ∧ (listensAnew s).record = s.record ∧ (listensAnew s).origin = s.origin ∧
      (listensAnew s).claim = s.claim ∧ (listensAnew s).port = s.port ∧
      (listensAnew s).control = { s.control with note := none } ∧ (listensAnew s).bus.attempt = s.bus.attempt ∧
      (s.control.state = .isolated → (listensAnew s).bus.awaitRest = true) := by
  unfold listensAnew
  dsimp only
  split
  · exact ⟨rfl, rfl, rfl, rfl, rfl, rfl, rfl, fun _ => rfl⟩
  · exact ⟨rfl, rfl, rfl, rfl, rfl, rfl, rfl, fun h => absurd h ‹_›⟩

/-- Into LISTEN with the backoff timer running: the quiet timer is stopped (R96, R97). -/
theorem listenWithBackoff_control (s : State) : let t := listenWithBackoff s
    t.control.state = .listen ∧ t.control.backoff = some ((s.number.val + 1) * 100, .listen) ∧
      t.control.quiet = none ∧ t.control.note = s.control.note ∧
      t.control.cause = if s.control.state = .departing then none else s.control.cause := by
  have hbackoff : (startBackoff .listen s).control.backoff = some (backoffInterval s, .listen) := rfl
  have hnote : ∀ c : Control, (leftControl c).note = c.note := fun c => by
    unfold leftControl
    split <;> rfl
  dsimp only
  rw [listenWithBackoff, changeState_control]
  refine ⟨enteredControl_state _ _ _ _, ?_, ?_, hnote _, leftControl_cause _⟩
  · exact (leftControl_backoff _).trans hbackoff
  · simp [enteredControl, leftControl_backoff, hbackoff]

theorem listenWithBackoff_frame (s : State) : let t := listenWithBackoff s
    t.number = s.number ∧ t.record = s.record ∧ t.claim = s.claim ∧ t.origin = s.origin ∧
      t.port = { s.port with stateCause := true } ∧ t.bus = { s.bus with pointer := 0, learned := false } := by
  obtain ⟨hnumber, hrecord, hclaim, hport, -⟩ := changeState_frame .listen (startBackoff .listen s)
  exact ⟨hnumber, hrecord, hclaim, changeState_origin _ (by decide), hport, changeState_bus_listen _⟩

/-! ### What RESTART leaves in every state -/

theorem restart_cases (h : s.control.state ≠ .offline) :
    (s.control.state = .member ∨ s.control.state = .syncing ∨ s.control.state = .leaving) ∨
      s.control.state = .departing ∨
      (s.control.state = .listen ∨ s.control.state = .founding ∨ s.control.state = .joining ∨
        s.control.state = .isolated) := by
  cases hs : s.control.state <;> simp_all

theorem restartFrom_frame (h : s.control.state ≠ .offline) : let t := restartFrom s
    t.record = s.record ∧ t.claim = s.claim ∧ t.bus.attempt = s.bus.attempt ∧ t.number = s.number ∧
      t.origin.levels = s.origin.levels ∧
      t.port = { (leaveGivenUp s).port with stateCause := t.port.stateCause } := by
  obtain ⟨hnumber, hbus, hrecord, -, -, horigin, hclaim⟩ := leaveGivenUp_frame s
  dsimp only
  rcases restart_cases h with hs | hs | hs
  · obtain ⟨hn, hb, hr, -, hc, hp, ho, -⟩ := enterDeparting_frame .restart (leaveGivenUp s)
    have hlevels : (enterDeparting .restart (leaveGivenUp s)).origin.levels = s.origin.levels := by
      rw [ho, ← horigin]
      rfl
    rw [restartFrom_judging hs]
    exact ⟨hr.trans hrecord, hc.trans hclaim, by rw [hb, hbus], hn.trans hnumber, hlevels, by rw [hp]⟩
  · rw [restartFrom_departing hs]
    exact ⟨hrecord, hclaim, by rw [State.setControl_bus, hbus], hnumber, by rw [State.setControl_origin, horigin], rfl⟩
  · obtain ⟨heq, hsame⟩ := restartFrom_outside hs
    obtain ⟨hn, hr, ho, hc, hp, -, hattempt, -⟩ := listensAnew_frame s
    obtain ⟨hn', hr', hc', ho', hp', hb'⟩ := listenWithBackoff_frame (listensAnew s)
    rw [heq, hsame]
    exact ⟨hr'.trans hr, hc'.trans hc, by rw [hb', ← hattempt], hn'.trans hn, by rw [ho', ho], by rw [hp', hp]⟩

end

end Sys2Proof.Machine

namespace Sys2Proof.Proofs

open Sys2Proof.Machine

/-- Settles O8, by the state in which RESTART comes. -/
theorem restartByStationState : Obligations.RestartByStationState := by
  intro s
  have htaken : s.control.state ≠ .offline → exec .restart s =
      .next (answerCode codeAccepted (updateRequest (restartFrom (takeCommand 3 s)))) := fun hon =>
    congrArg Host.Outcome.next (if_neg hon)
  by_cases hon : s.control.state = .offline
  · refine ⟨_, rfl, fun _ => if_pos hon, fun h => absurd hon h, ?_, ?_, ?_⟩ <;> intro h <;> simp [hon] at h
  obtain ⟨hrecord, hclaim, hattempt, hnumber, hlevels, hport⟩ := restartFrom_frame (s := takeCommand 3 s) hon
  refine ⟨_, htaken hon, fun hoff => absurd hoff hon, fun _ => ?_, fun hs => ?_, fun hs => ?_, fun hs => ?_⟩
  · have hside := Replies.restartFrom (takeCommand 3 s)
    refine ⟨hside.command, rfl, rfl, rfl, rfl, hrecord, hclaim, hattempt, hnumber, hlevels, hside.store,
      (congrArg Port.faults hport).trans (by rw [leaveGivenUp_port]; split <;> rfl), ?_⟩
    have hgiven := leaveGivenUp_port (takeCommand 3 s)
    split
    · next hheld =>
      rw [hgiven.trans (if_pos hheld)] at hport
      have hcompletions := congrArg Port.completions hport
      have hreserved := congrArg Port.reserved hport
      exact ⟨hcompletions, hreserved⟩
    · next hheld =>
      rw [hgiven.trans (if_neg hheld)] at hport
      have hcompletions := congrArg Port.completions hport
      have hreserved := congrArg Port.reserved hport
      exact ⟨hcompletions, hreserved⟩
  · obtain ⟨-, -, -, hagenda, -, hport, horigin, -⟩ := enterDeparting_frame .restart (leaveGivenUp (takeCommand 3 s))
    obtain ⟨-, -, -, -, hcontrol, hsame, -⟩ := leaveGivenUp_frame (takeCommand 3 s)
    have hleft : leftControl (takeCommand 3 s).control = s.control := by
      change leftControl s.control = s.control
      rcases hs with hs | hs | hs <;> simp only [leftControl, hs]
    have hwait : idleInterval (leaveGivenUp (takeCommand 3 s)) = s.port.store.ti * 250 := by
      unfold idleInterval
      rw [leaveGivenUp_port]
      split <;> rfl
    have hto := restartFrom_judging (s := takeCommand 3 s) hs
    have hnil : (restartFrom (takeCommand 3 s)).agenda.purposes = [] := by rw [hto, hagenda]
    have hcause : (restartFrom (takeCommand 3 s)).port.stateCause = true := by rw [hto, hport]
    have htimers : (restartFrom (takeCommand 3 s)).origin = (stopServiceTimers s).origin := by
      rw [hto, horigin]
      unfold stopServiceTimers
      rw [hsame]
      rfl
    refine ⟨?_, hnil, hcause, ?_, fun n => ?_, ?_⟩
    · change (restartFrom (takeCommand 3 s)).control = _
      rw [hto, enterDeparting_control, hcontrol, hwait, hleft]
    · change (updateRequest (restartFrom (takeCommand 3 s))).bus.request = false
      rw [updateRequest_request, wantsBus_nil hnil, Bool.and_false]
    · change (restartFrom (takeCommand 3 s)).origin.lines[n] = _
      rw [htimers]
      simp [stopServiceTimers]
    · change (restartFrom (takeCommand 3 s)).origin.raises = _
      rw [htimers]
      rfl
  · obtain ⟨-, -, -, hagenda, -, horigin, -⟩ := leaveGivenUp_frame (takeCommand 3 s)
    have hto := restartFrom_departing (s := takeCommand 3 s) hs
    refine ⟨?_, ?_, ?_⟩
    · change (restartFrom (takeCommand 3 s)).control = _
      rw [hto]
      rfl
    · change (restartFrom (takeCommand 3 s)).agenda = _
      rw [hto]
      exact hagenda
    · change (restartFrom (takeCommand 3 s)).origin = _
      rw [hto]
      exact horigin
  · obtain ⟨hto, -⟩ := restartFrom_outside (s := takeCommand 3 s) hs
    obtain ⟨hnumber, -, horigin, -, -, hcontrol, -, hawait⟩ := listensAnew_frame (takeCommand 3 s)
    obtain ⟨hstate, hbackoff, hquiet, hnote, hcause⟩ := listenWithBackoff_control (listensAnew (takeCommand 3 s))
    obtain ⟨-, -, -, horigin', hport', hbus⟩ := listenWithBackoff_frame (listensAnew (takeCommand 3 s))
    change (restartFrom (takeCommand 3 s)).control.state = _ ∧ (restartFrom (takeCommand 3 s)).control.cause = _ ∧
      (restartFrom (takeCommand 3 s)).control.backoff = _ ∧ (restartFrom (takeCommand 3 s)).control.quiet = _ ∧
      (restartFrom (takeCommand 3 s)).control.note = _ ∧ (restartFrom (takeCommand 3 s)).port.stateCause = _ ∧
      (restartFrom (takeCommand 3 s)).bus.pointer = _ ∧ (restartFrom (takeCommand 3 s)).bus.learned = _ ∧
      (restartFrom (takeCommand 3 s)).origin = _ ∧
      (s.control.state = .isolated → (restartFrom (takeCommand 3 s)).bus.awaitRest = true)
    have hdeparting : s.control.state ≠ .departing := by rcases hs with hs | hs | hs | hs <;> simp [hs]
    rw [hto, hbus]
    refine ⟨hstate, ?_, by rw [hbackoff, hnumber]; rfl, hquiet, by rw [hnote, hcontrol], by rw [hport'], rfl, rfl,
      by rw [horigin', horigin]; rfl, hawait⟩
    rw [hcause, hcontrol]
    exact if_neg hdeparting

end Sys2Proof.Proofs
end


section
/-! LEAVE, state by state (R24, R94, R111, R157). -/

set_option Elab.async false

namespace Sys2Proof.Machine

section

variable {s : State}

theorem leaveAllowed_eq_false (h : s.control.state = .offline ∨ s.control.state = .leaving ∨
    s.control.state = .departing ∧ s.control.cause = some .leave) : leaveAllowed s = false := by
  rcases h with h | h | ⟨h, hc⟩
  · simp [leaveAllowed, h]
  · simp [leaveAllowed, h]
  · simp [leaveAllowed, h, hc]

theorem leaveAllowed_of (hoff : s.control.state ≠ .offline) (hleaving : s.control.state ≠ .leaving)
    (hheld : ¬(s.control.state = .departing ∧ s.control.cause = some .leave)) : leaveAllowed s ≠ false := by
  unfold leaveAllowed
  cases hs : s.control.state <;> simp_all

/-! ### In a group: LEAVING with a LEAVE purpose -/

theorem addPurpose_leave (h : s.control.state = .leaving) :
    addPurpose .leave s = s.setAgenda (s.agenda.gains (· == .leave) .leave) := by
  refine addPurpose_gains (by rw [h]; rfl) fun p _ => ?_
  cases p.aim <;> rfl

/-- What an add makes of the purposes beside the CLAIMs does not depend on the CLAIMs. -/
theorem gains_others {g g' : Agenda} {same : Aim → Bool} {a : Aim} (hclaim : same .claim = false)
    (hp : g.purposes.filter (fun p => p.aim != .claim) = g'.purposes.filter (fun p => p.aim != .claim))
    (hage : g.nextAge = g'.nextAge) :
    (g.gains same a).purposes.filter (fun p => p.aim != .claim) =
      (g'.gains same a).purposes.filter (fun p => p.aim != .claim) := by
  have hany : ∀ l : List Purpose, l.any (fun p => same p.aim) =
      (l.filter (fun p => p.aim != .claim)).any (fun p => same p.aim) := fun l => by
    rw [List.any_filter]
    refine congrArg (fun f => List.any l f) (funext fun p => ?_)
    by_cases hc : p.aim = .claim
    · simp [hc, hclaim]
    · simp [hc]
  unfold Agenda.gains
  rw [hany, hp, ← hany, hage]
  split
  · exact hp
  · rw [List.filter_append, List.filter_append, hp]

theorem leaveFrom_group (h : s.control.state = .member ∨ s.control.state = .syncing) :
    leaveFrom s = addPurpose .leave (changeState .leaving s) := by
  rcases h with h | h <;> simp only [leaveFrom, h]

theorem changeState_leaving_agenda (h : s.control.state = .member ∨ s.control.state = .syncing) :
    (changeState .leaving s).agenda = { s.agenda with
      purposes := s.agenda.purposes.filter (fun p => p.aim != .claim) } := by
  have hleft : leaveState s = s := by rcases h with h | h <;> simp only [leaveState, h]
  have hwants : wantsToClaim (markState .leaving s) = false := by simp [wantsToClaim]
  rw [changeState_leaving, hleft, updateWant, hwants]
  rfl

/-- In LEAVING the agenda holds a LEAVE and no CLAIM, and what it held beside (R111, R138). -/
theorem leaveFrom_group_agenda (h : s.control.state = .member ∨ s.control.state = .syncing) :
    let t := leaveFrom s
    holdsAim (· == .claim) t = false ∧ t.agenda.purposes.filter (fun p => p.aim != .claim) =
      (s.agenda.gains (· == .leave) .leave).purposes.filter (fun p => p.aim != .claim) := by
  have hagenda := changeState_leaving_agenda h
  dsimp only
  rw [leaveFrom_group h, addPurpose_leave (changeState_state _ _), hagenda]
  constructor
  · unfold holdsAim Agenda.gains
    rw [State.setAgenda_agenda, Bool.eq_false_iff, ne_eq, List.any_eq_true]
    rintro ⟨p, hp, hclaim⟩
    split at hp
    · simp_all
    · simp_all
  · exact gains_others (by decide) (by simp) rfl

theorem leaveFrom_group_blocks (h : s.control.state = .member ∨ s.control.state = .syncing) : let t := leaveFrom s
    t.control = { s.control with state := .leaving } ∧ t.port = { s.port with stateCause := true } ∧ t.bus = s.bus := by
  have hleft : leftControl s.control = s.control := by rcases h with h | h <;> simp only [leftControl, h]
  dsimp only
  rw [leaveFrom_group h, addPurpose_leave (changeState_state _ _)]
  refine ⟨?_, (changeState_frame .leaving s).2.2.2.1, changeState_bus s (by decide)⟩
  rw [State.setAgenda_control, changeState_control, hleft]
  rfl

/-! ### Outside a group: OFFLINE at once -/

theorem leaveFrom_outside (h : s.control.state = .listen ∨ s.control.state = .founding ∨ s.control.state = .joining ∨
    s.control.state = .isolated) :
    leaveFrom s = changeState .offline (postCompletions [.leaveLeft] s) := by
  rcases h with h | h | h | h <;> simp only [leaveFrom, h, leaveEnds]

/-- Going OFFLINE marks an attempt in flight to be discarded; with none observing stops (R24, R94). -/
theorem stopObserving_attempt (s : State) :
    (stopObserving s).bus.attempt = s.bus.attempt.map (fun a => { a with discard := true }) ∧
      (s.bus.attempt = none → (stopObserving s).bus.observing = false) := by
  cases ha : s.bus.attempt with
  | none =>
    rw [Observing.stopObserving_bus_none ha]
    exact ⟨ha, fun _ => rfl⟩
  | some a =>
    rw [Observing.stopObserving_bus_some ha]
    exact ⟨rfl, nofun⟩

/-- What LEAVE changes in no state (R157). -/
theorem leaveFrom_frame (s : State) : let t := leaveFrom s
    t.record = s.record ∧ t.claim = s.claim ∧ t.origin = s.origin ∧ t.port.faults = s.port.faults := by
  have hmoved : ∀ (new : StationState) (u : State), new ≠ .member ∧ new ≠ .departing →
      (changeState new u).record = u.record ∧ (changeState new u).claim = u.claim ∧
        (changeState new u).origin = u.origin ∧ (changeState new u).port.faults = u.port.faults := fun new u hnew => by
    obtain ⟨-, hrecord, hclaim, hport, -⟩ := changeState_frame new u
    exact ⟨hrecord, hclaim, changeState_origin u hnew, by rw [hport]⟩
  dsimp only
  cases hs : s.control.state
  case offline | leaving => simp only [leaveFrom, hs, and_self]
  case departing => simp only [leaveFrom, hs, State.setControl_record, State.setControl_claim, State.setControl_origin,
    State.setControl_port, and_self]
  case member | syncing =>
    rw [leaveFrom_group (by simp [hs]), addPurpose_leave (changeState_state _ _)]
    exact hmoved .leaving s (by decide)
  case listen | founding | joining | isolated =>
    rw [leaveFrom_outside (by simp [hs])]
    exact hmoved .offline (postCompletions [.leaveLeft] s) (by decide)

theorem changeState_offline_control (s : State) : let t := changeState .offline s
    t.control.state = .offline ∧ t.control.quiet = none ∧ t.control.joinReply = none ∧ t.control.backoff = none ∧
      t.control.note = none := by
  dsimp only
  rw [changeState_control]
  exact ⟨rfl, rfl, rfl, rfl, rfl⟩

end

end Sys2Proof.Machine

namespace Sys2Proof.Proofs

open Sys2Proof.Machine

/-- Settles O9, by the state in which LEAVE comes. -/
theorem leaveByStationState : Obligations.LeaveByStationState := by
  intro s
  refine ⟨_, rfl, fun hno => if_pos (leaveAllowed_eq_false (s := takeCommand 4 s) hno), fun hoff hleaving hheld => ?_⟩
  have hallowed := leaveAllowed_of (s := takeCommand 4 s) hoff hleaving hheld
  have hexec : ∀ u, (if freeReservations (takeCommand 4 s) = 0 then answerCode codeBusy (takeCommand 4 s)
      else answerCode codeAccepted (updateRequest (leaveFrom (reserve (takeCommand 4 s))))) = u →
      commandLeave (takeCommand 4 s) = u := fun u hu => (if_neg hallowed).trans hu
  constructor
  · intro hfull
    refine hexec _ (if_pos ?_)
    change 16 - s.port.reserved - s.port.completions.length = 0
    omega
  · intro hfree
    have haccepted := hexec _ (if_neg (by
      change ¬(16 - s.port.reserved - s.port.completions.length = 0)
      omega))
    have hside := Replies.leaveFrom (reserve (takeCommand 4 s))
    obtain ⟨hrecord, hclaim, horigin, hfaults⟩ := leaveFrom_frame (reserve (takeCommand 4 s))
    rw [haccepted]
    refine ⟨hside.command, rfl, rfl, rfl, rfl, hrecord, hclaim, hside.store, horigin, hfaults, fun hs => ?_, fun hs => ?_,
      fun hs => ?_⟩
    · obtain ⟨hcontrol, hport, hbus⟩ := leaveFrom_group_blocks (s := reserve (takeCommand 4 s)) hs
      obtain ⟨hclaims, hothers⟩ := leaveFrom_group_agenda (s := reserve (takeCommand 4 s)) hs
      exact ⟨hcontrol, congrArg Port.stateCause hport, hclaims, hothers, (congrArg Bus.attempt hbus :),
        (congrArg Port.completions hport :), (congrArg Port.reserved hport :)⟩
    · have hto : leaveFrom (reserve (takeCommand 4 s)) =
          (reserve (takeCommand 4 s)).setControl { s.control with cause := some .leave } := by
        unfold leaveFrom
        rw [show (reserve (takeCommand 4 s)).control.state = .departing from hs]
        rfl
      rw [hto]
      exact ⟨rfl, rfl, rfl, rfl⟩
    · have hto := leaveFrom_outside (s := reserve (takeCommand 4 s)) hs
      have hcontrol := changeState_offline_control (postCompletions [.leaveLeft] (reserve (takeCommand 4 s)))
      have hport := (changeState_frame .offline (postCompletions [.leaveLeft] (reserve (takeCommand 4 s)))).2.2.2.1
      have hagenda := changeState_agenda_off (postCompletions [.leaveLeft] (reserve (takeCommand 4 s)))
        (new := .offline) (.inl rfl)
      have hbus := changeState_bus_off (postCompletions [.leaveLeft] (reserve (takeCommand 4 s)))
        (new := .offline) (.inl rfl)
      obtain ⟨hattempt, hobserving⟩ := stopObserving_attempt (postCompletions [.leaveLeft] (reserve (takeCommand 4 s)))
      rw [← hto] at hcontrol hport hagenda hbus
      rw [← hbus] at hattempt hobserving
      obtain ⟨hstate, hquiet, hreply, hbackoff, hnote⟩ := hcontrol
      have hnil : (leaveFrom (reserve (takeCommand 4 s))).agenda.purposes = [] := congrArg Agenda.purposes hagenda
      refine ⟨hstate, hquiet, hreply, hbackoff, hnote, hnil, (congrArg Agenda.idle hagenda :),
        (congrArg Port.stateCause hport :), ?_, hattempt, hobserving, (congrArg Port.completions hport :),
        (congrArg Port.reserved hport :)⟩
      change (updateRequest (leaveFrom (reserve (takeCommand 4 s)))).bus.request = false
      rw [updateRequest_request, wantsBus_nil hnil, Bool.and_false]

end Sys2Proof.Proofs
end


section
/-! The close of arbitration: the winner, the grant and the note of the own request line (R24 to R28). -/

set_option Elab.async false

namespace Sys2Proof.Machine

/-! ### The winner (R27) -/

theorem winnerOf_zero (pointer : Station) : winnerOf pointer 0 = none := by
  simp [winnerOf, setHas]

/-- The winner is the requesting station nearest above the pointer. -/
theorem winnerOf_of_nearest {pointer w : Station} {v : StationSet} (hw : v.getLsbD w.val = true)
    (hnear : ∀ x : Station, v.getLsbD x.val = true → (w - pointer).val ≤ (x - pointer).val) :
    winnerOf pointer v = some w := by
  have hfirst : (List.finRange 16).find? (setHas v ∘ fun i => pointer + i) = some (w - pointer) := by
    refine find?_finRange_of_least ?_ fun m hm => Bool.eq_false_iff.mpr fun hx => ?_
    · simpa [setHas] using hw
    · have := hnear (pointer + m) hx
      rw [add_sub_cancel_left] at this
      exact absurd hm (Fin.not_lt.mpr this)
  rw [winnerOf, countFrom, List.find?_map, hfirst, Option.map_some, add_sub_cancel]

/-! ### The events of arbitration -/

theorem wantsBus_setBus (s : State) (b : Bus) : wantsBus (s.setBus b) = wantsBus s := rfl

section

variable {s : State} (hnone : s.bus.attempt = none)
include hnone

theorem busAtRest_exec (hawait : s.bus.awaitRest = true) : ∃ t, exec .busAtRest s = .next t ∧
    t = s.setBus { s.bus with awaitRest := false, observing := true, request := wantsBus s
                              requestChanged := t.bus.requestChanged } := by
  refine ⟨_, congrArg Host.Outcome.next (if_pos ⟨hawait, hnone⟩), ?_⟩
  refine (updateRequest_eq _).trans ?_
  change s.setBus _ = s.setBus _
  have hrequest : (updateRequest (s.setBus { s.bus with awaitRest := false, observing := true })).bus.request =
      wantsBus s := by
    rw [updateRequest_request, State.setBus_bus, hnone]
    exact wantsBus_setBus s _
  unfold Bus.requestAs
  rw [hrequest]
  rfl

theorem arbitrationClose_exec (hobs : s.bus.observing = true) (hrest : s.bus.awaitRest = false) (lines : Sampling) :
    exec (.arbitrationClose lines) s = .next (updateRequest (arbitrationCloses lines s)) := by
  refine congrArg Host.Outcome.next (if_pos ⟨?_, hnone⟩)
  rw [observes, hobs, hrest]
  rfl

end

/-! ### The close -/

section

variable {s : State} {lines : Sampling} {own : Bool} {v : StationSet} (hown : sampledOwn s lines.own = own)
  (hv : requestVector s lines.others own = v)
include hown hv

theorem arbitrationCloses_none (h : v = 0) :
    arbitrationCloses lines s = s.setBus { s.bus with arbitrating := false, requestChanged := false } := by
  unfold arbitrationCloses
  dsimp only
  rw [hown, hv, h, winnerOf_zero]

theorem arbitrationCloses_won {w : Station} (h : winnerOf s.bus.pointer v = some w) :
    arbitrationCloses lines s = if w = s.number ∧ own = true then granted v s else receives v own w s := by
  unfold arbitrationCloses
  dsimp only
  rw [hown, hv, h]

end

/-! ### The grant -/

theorem foundReplaced_frame (s : State) : (foundReplaced s).number = s.number ∧ (foundReplaced s).record = s.record ∧
    (foundReplaced s).claim = s.claim ∧ (foundReplaced s).origin = s.origin := by
  unfold foundReplaced
  split
  · obtain ⟨hnumber, hrecord, hclaim, -⟩ := changeState_frame .joining s
    exact ⟨hnumber, hrecord, hclaim, changeState_origin s (by decide)⟩
  · exact ⟨rfl, rfl, rfl, rfl⟩

/-- This station granted is the sender of its frame, its request line released and no change noted (R25, R27). -/
theorem granted_bus (v : StationSet) (s : State) : (updateRequest (granted v s)).bus = { s.bus with
    arbitrating := false, request := false, requestChanged := false
    attempt := some (newAttempt s v true s.number (some (grantFrame (foundReplaced s)))) } := by
  rw [updateRequest_request]
  simp [granted, foundReplaced_bus, requestDue, newAttempt]

theorem granted_frame (v : StationSet) (s : State) : let t := updateRequest (granted v s)
    t.record = s.record ∧ t.claim = s.claim ∧ t.origin = s.origin := by
  obtain ⟨-, hrecord, hclaim, horigin⟩ := foundReplaced_frame s
  obtain ⟨-, -, hr, -, ho, hc, -⟩ := agendaGrants_frame (foundReplaced s)
  exact ⟨hr.trans hrecord, hc.trans hclaim, ho.trans horigin⟩

theorem grantFrame_sender (s : State) : (grantFrame (foundReplaced s)).sender = s.number := (foundReplaced_frame s).1

/-! ### The note that the own request line changed (R26) -/

/-- While an arbitration stays open, a change of the own request line is noted, and a note stays. -/
structure Notes (s t : State) : Prop where
  opened : t.bus.arbitrating = true → s.bus.arbitrating = true
  note : t.bus.arbitrating = true → s.bus.requestChanged = true ∨ t.bus.request ≠ s.bus.request →
    t.bus.requestChanged = true

namespace Notes

variable {s t u : State}

theorem of_bus (harb : t.bus.arbitrating = s.bus.arbitrating) (hrequest : t.bus.request = s.bus.request)
    (hchanged : t.bus.requestChanged = s.bus.requestChanged) : Notes s t :=
  ⟨fun h => harb.symm.trans h, fun _ h => hchanged.trans (h.resolve_right fun hne => hne hrequest)⟩

theorem of_same (h : t.bus = s.bus) : Notes s t := of_bus (by rw [h]) (by rw [h]) (by rw [h])

theorem of_closed (h : t.bus.arbitrating = false) : Notes s t :=
  ⟨fun k => absurd (h.symm.trans k) (by decide), fun k => absurd (h.symm.trans k) (by decide)⟩

theorem trans (h : Notes s t) (k : Notes t u) : Notes s u where
  opened := h.opened ∘ k.opened
  note harb hnote := by
    by_cases hut : u.bus.request = t.bus.request
    · exact k.note harb (.inl (h.note (k.opened harb) (by rwa [hut] at hnote)))
    · exact k.note harb (.inr hut)

/-- Going on from a state whose request line and arbitration are those of s. -/
theorem after (k : Notes t u) (harb : t.bus.arbitrating = s.bus.arbitrating) (hrequest : t.bus.request = s.bus.request)
    (hchanged : t.bus.requestChanged = s.bus.requestChanged) : Notes s u := (of_bus harb hrequest hchanged).trans k

theorem updateRequest (s : State) : Notes s (updateRequest s) := by
  refine ⟨id, fun _ h => ?_⟩
  change (s.bus.requestChanged || requestDue s != s.bus.request) = true
  rw [Bool.or_eq_true, bne_iff_ne]
  exact h

theorem changeState (new : StationState) (s : State) : Notes s (changeState new s) := by
  by_cases hoff : new = .offline ∨ new = .isolated
  · refine of_closed ?_
    rw [changeState_bus_off s hoff]
    unfold stopObserving
    split <;> rfl
  · by_cases hlisten : new = .listen
    · subst hlisten
      have hbus := changeState_bus_listen s
      exact of_bus (by rw [hbus]) (by rw [hbus]) (by rw [hbus])
    · exact of_same (changeState_bus s ⟨fun h => hoff (.inl h), fun h => hoff (.inr h), hlisten⟩)

/-- Work on the other blocks, with the request line worked out anew at its end. -/
theorem then_request (h : t.bus = s.bus) : Notes s (Machine.updateRequest t) := (of_same h).trans (.updateRequest t)

theorem listenWithBackoff (s : State) : Notes s (listenWithBackoff s) :=
  after (.changeState .listen (startBackoff .listen s)) rfl rfl rfl

theorem restartFrom (s : State) : Notes s (restartFrom s) := by
  unfold Machine.restartFrom
  cases s.control.state
  case offline => exact of_same rfl
  case member | syncing | leaving => exact of_same (by simp)
  case departing =>
    dsimp only
    split <;> exact of_same rfl
  case isolated =>
    exact after (listenWithBackoff _) rfl rfl rfl
  case listen | founding | joining =>
    exact after (listenWithBackoff _) rfl rfl rfl

theorem leaveFrom (s : State) : Notes s (leaveFrom s) := by
  unfold Machine.leaveFrom
  cases s.control.state
  case offline | leaving | departing => exact of_same rfl
  case member | syncing => exact (Notes.changeState .leaving s).trans (of_same (by simp))
  case listen | founding | joining | isolated =>
    exact after (.changeState .offline (postCompletions [.leaveLeft] s)) rfl rfl rfl

/-! #### Every command -/

theorem answers (h : Notes s t) (r a b c : Word32) : Notes s (answerHost r a b c t) := h.trans (of_same rfl)

theorem commandSet (s : State) : Notes s (commandSet s) := by
  unfold Machine.commandSet
  split
  · exact of_same rfl
  · split
    · exact of_same rfl
    · exact of_same (setItem_frame _ _ _ s).2.1

theorem commandStart (s : State) : Notes s (commandStart s) := by
  unfold Machine.commandStart
  split
  · exact of_same rfl
  · split
    · exact of_same rfl
    · exact after (answers (.changeState .listen (startObserving (setStore (fun c => { c with locked := true }) s)))
        _ _ _ _) rfl rfl rfl

theorem writeCommand (code : Word32) (s : State) : Notes s (writeCommand code s) := by
  refine after (t := takeCommand code s) ?_ rfl rfl rfl
  unfold Machine.writeCommand
  dsimp only
  generalize takeCommand code s = u
  split
  case h_1 => exact commandSet u
  case h_2 => exact commandStart u
  case h_3 =>
    unfold commandRestart
    split
    · exact of_same rfl
    · exact answers ((restartFrom u).trans (.updateRequest _)) _ _ _ _
  case h_4 =>
    unfold commandLeave
    split
    · exact of_same rfl
    · split
      · exact of_same rfl
      · exact after (answers ((leaveFrom (reserve u)).trans (.updateRequest _)) _ _ _ _) rfl rfl rfl
  case h_5 | h_6 => exact answers (then_request (by simp)) _ _ _ _
  case h_7 =>
    unfold commandReadGrant
    split
    · exact of_same rfl
    · split <;> exact of_same rfl
  case h_8 =>
    unfold commandFinish
    split
    · exact of_same rfl
    · split
      · exact of_same rfl
      · split
        · exact answers (then_request (by simp)) _ _ _ _
        · exact of_same rfl
  case h_9 =>
    unfold commandRaise
    dsimp only
    split
    · exact of_same rfl
    · split
      · exact of_same rfl
      · split
        · exact of_same rfl
        · refine answers (then_request ?_) _ _ _ _
          unfold raiseAccepted
          dsimp only
          split <;> simp
  case h_10 =>
    unfold commandEnableLine
    split
    · exact of_same rfl
    · split
      · exact answers (then_request (by simp)) _ _ _ _
      · exact of_same rfl
  case h_11 =>
    unfold commandReadCompletion
    split <;> exact of_same rfl
  case h_12 =>
    unfold commandReadFault
    split <;> exact of_same rfl
  case h_13 =>
    unfold commandInspect
    split
    · exact of_same rfl
    · split <;> exact of_same rfl
  case h_14 | h_15 => exact of_same rfl

theorem arbitrationCloses (lines : Sampling) (s : State) : Notes s (Machine.updateRequest (Machine.arbitrationCloses lines s)) := by
  refine of_closed ?_
  change (Machine.arbitrationCloses lines s).bus.arbitrating = false
  unfold Machine.arbitrationCloses
  dsimp only
  split
  · rfl
  · split <;> rfl

theorem backoffEnds (noted : Bool) (f : FollowOn) (s : State) : Notes s (backoffEnds noted f s) := by
  unfold Machine.backoffEnds
  split
  · split
    · exact .changeState .joining s
    · exact of_same rfl
  · split <;> exact of_same (by simp)
  all_goals exact of_same rfl

theorem addRevoke_bus (x : Source) (h : Option Handle) (s : State) : (addRevoke x h s).bus = s.bus := by
  unfold addRevoke
  split
  · rfl
  · split <;> simp

theorem exec_event {c : Instr} (hcode : hostCode c = none) (hnone : s.bus.attempt = none)
    (harb : s.bus.arbitrating = true) (ht : exec c s = .next t) : Notes s t := by
  cases c
  all_goals
    change Host.Outcome.next _ = _ at ht
    cases ht
  case powerOnReset => exact of_closed rfl
  case irqMaskWrite => exact of_same rfl
  case windowWrite loc v =>
    unfold writeWindow
    split
    · exact writeCommand v s
    all_goals exact of_same rfl
  case eventLineChange n level => exact then_request (Reacts.inputChanges n level s).bus
  case busAtRest =>
    split
    · exact after (.updateRequest _) rfl rfl rfl
    · exact of_same rfl
  case arbitrationOpen others =>
    split
    · next h => exact absurd (harb.symm.trans h.2.2.1) (by decide)
    · exact of_same rfl
  case arbitrationClose lines =>
    split
    · exact arbitrationCloses lines s
    · exact of_same rfl
  case frameEnd | attemptEnd | attemptBroken =>
    rw [hnone]
    exact of_same rfl
  case idleTimerExpiry =>
    split
    · refine then_request ?_
      split <;> simp
    · exact of_same rfl
  case departingWaitExpiry =>
    split
    · exact then_request (by simp)
    · exact of_same rfl
  case quietTimerExpiry =>
    split
    · exact (Notes.changeState .founding s).trans (.updateRequest _)
    · exact of_same rfl
  case joinReplyTimerExpiry =>
    split
    · exact (Notes.changeState .listen s).trans (then_request (by simp [joinTimedOut]))
    · exact of_same rfl
  case backoffTimerExpiry =>
    split
    · exact of_same rfl
    · exact after ((backoffEnds _ _ _).trans (.updateRequest _)) rfl rfl rfl
  case setAsideTimerExpiry =>
    split
    · exact then_request rfl
    · exact of_same rfl
  case serviceTimerExpiry =>
    split
    · split
      · exact then_request (addRevoke_bus _ _ _)
      · exact of_same rfl
    · split
      · exact of_same rfl
      · split
        · exact then_request (addRevoke_bus _ _ _)
        · exact of_same rfl
  all_goals exact nomatch hcode

/-- With an arbitration open and no attempt in flight, every command notes what it changes of the request line. -/
theorem exec {c : Instr} (hnone : s.bus.attempt = none) (harb : s.bus.arbitrating = true) (ht : exec c s = .next t) :
    Notes s t := by
  cases hcode : hostCode c with
  | none => exact exec_event hcode hnone harb ht
  | some code =>
    rw [exec_of_hostCode hcode] at ht
    cases ht
    exact writeCommand code s

end Notes

end Sys2Proof.Machine

namespace Sys2Proof.Proofs

open Sys2Proof.Machine

/-- Settles O22: the events of arbitration in turn, and the note of the request line command by command. -/
theorem arbitrationGrantsFirstFromPointer : Obligations.ArbitrationGrantsFirstFromPointer := by
  refine ⟨fun s others found hnone => ⟨busAtRest_exec hnone, fun hobs hrest => ?_⟩, fun c s t hnone harb ht ht' =>
    (Notes.exec hnone harb ht).note ht'⟩
  intro opens own v close
  have hclose := arbitrationClose_exec hnone hobs hrest ⟨others, found⟩
  refine ⟨fun hopens hfree => ?_, fun hv => ⟨_, hclose, ?_⟩, fun w hw hnear => ?_⟩
  · refine congrArg Host.Outcome.next (if_pos ⟨?_, hnone, hfree, hopens⟩)
    rw [observes, hobs, hrest]
    rfl
  · rw [arbitrationCloses_none (lines := ⟨others, found⟩) (own := own) (v := v) rfl rfl hv]
    rfl
  · have hwon := arbitrationCloses_won (lines := ⟨others, found⟩) (own := own) (v := v) rfl rfl
      (winnerOf_of_nearest (v := v) hw hnear)
    refine ⟨fun hother => ⟨_, hclose, ?_⟩, ?_⟩
    · rw [hwon, if_neg hother]
      rfl
    · rintro rfl hown
      rw [if_pos ⟨rfl, hown⟩] at hwon
      rw [hwon] at hclose
      have hbus := granted_bus v s
      obtain ⟨hrecord, hclaim, horigin⟩ := granted_frame v s
      refine ⟨_, grantFrame (foundReplaced s), hclose, hbus, grantFrame_sender s, ?_, hrecord, hclaim, horigin⟩
      unfold drivenWords
      rw [hbus]
      rfl

end Sys2Proof.Proofs
end


section
/-! What a grant builds and what it takes from the agenda (R86, R89, R90, R101). -/

set_option Elab.async false

namespace Sys2Proof.Machine

/-! ### The order of purposes (R86) -/

/-- A purpose's place in the order: rank, then the lag of an OFFER's priority, then age. -/
def Purpose.key (p : Purpose) : Nat ×ₗ Nat ×ₗ Nat := toLex (p.aim.rank, toLex (p.aim.offerLag, p.age))

theorem goesBefore_iff {p q : Purpose} : goesBefore p q = true ↔ p.key < q.key := by
  simp only [goesBefore, Purpose.key, Prod.Lex.toLex_lt_toLex, Bool.or_eq_true, Bool.and_eq_true, decide_eq_true_eq,
    beq_iff_eq]

/-- No purpose goes before the first. -/
theorem firstPurpose_least {ps : List Purpose} {p : Purpose} (h : firstPurpose ps = some p) :
    ∀ q ∈ ps, goesBefore q p = false := by
  have hle : ∀ q ∈ ps, p.key ≤ q.key := by
    induction ps generalizing p with
    | nil => exact fun q hq => absurd hq List.not_mem_nil
    | cons x xs ih =>
      unfold firstPurpose at h
      split at h
      · next hnone =>
        cases h
        rw [firstPurpose_none] at hnone
        subst hnone
        exact fun q hq => by rw [List.mem_singleton.mp hq]
      · next y hy =>
        have hrest := ih hy
        split at h <;> cases h
        · next hyx =>
          exact List.forall_mem_cons.mpr ⟨(goesBefore_iff.mp hyx).le, hrest⟩
        · next hyx =>
          have hxy := not_lt.mp (mt goesBefore_iff.mpr hyx)
          exact List.forall_mem_cons.mpr ⟨le_rfl, fun q hq => hxy.trans (hrest q hq)⟩
  exact fun q hq => Bool.eq_false_iff.mpr fun hqp => not_lt.mpr (hle q hq) (goesBefore_iff.mp hqp)

/-- The purpose that goes before all others that are sendable and valid is the one chosen (R89). -/
theorem chosenPurpose_of_first {s : State} {p : Purpose} (hp : p ∈ s.agenda.purposes) (hsend : sendable s p = true)
    (hvalid : validNow s p = true)
    (hfirst : ∀ q ∈ s.agenda.purposes, q ≠ p → sendable s q = true → validNow s q = true → goesBefore p q = true) :
    chosenPurpose s = some p := by
  have hmem : p ∈ s.agenda.purposes.filter (fun q => sendable s q && validNow s q) :=
    List.mem_filter.mpr ⟨hp, by rw [hsend, hvalid]; rfl⟩
  cases hc : chosenPurpose s with
  | none =>
    rw [firstPurpose_none.mp hc] at hmem
    exact absurd hmem List.not_mem_nil
  | some q =>
    by_contra hne
    obtain ⟨hq, hok⟩ := List.mem_filter.mp (firstPurpose_mem hc)
    obtain ⟨hqs, hqv⟩ := Bool.and_eq_true_iff.mp hok
    have hbefore := hfirst q hq (fun h => hne (by rw [h])) hqs hqv
    rw [firstPurpose_least hc p hmem] at hbefore
    cases hbefore

theorem chosenPurpose_eq_none {s : State} (h : ∀ p ∈ s.agenda.purposes, ¬(sendable s p = true ∧ validNow s p = true)) :
    chosenPurpose s = none := by
  refine firstPurpose_none.mpr (List.filter_eq_nil_iff.mpr fun p hp hok => ?_)
  exact h p hp (Bool.and_eq_true_iff.mp hok)

/-! ### What leaves the agenda (R89, R138) -/

/-- A grant takes from the agenda the purposes that lapse and no others; the claim unit may add its CLAIM anew. -/
theorem mem_agendaGrants {s : State} (h : AgendaSound s) {q : Purpose} (hq : q ∈ s.agenda.purposes) :
    q ∈ (agendaGrants s).agenda.purposes ↔ lapses s q = false := by
  have hkept : q ∈ s.agenda.purposes.filter (fun p => !lapses s p) ↔ lapses s q = false := by
    rw [List.mem_filter, Bool.not_eq_true', and_iff_right hq]
  unfold agendaGrants
  dsimp only
  split
  · next hstanding =>
    rw [Bool.and_eq_true, Bool.not_eq_true'] at hstanding
    have hgone := List.any_eq_false.mp hstanding.2
    unfold updateWant
    split
    · rcases addPurpose_cases .claim (s.setAgenda { s.agenda with
          purposes := s.agenda.purposes.filter (fun p => !lapses s p), sent := grantSent s }) with
        ⟨-, -, heq⟩ | ⟨-, heq⟩ <;> rw [heq]
      · refine (List.mem_append.trans (or_iff_left fun hnew => ?_)).trans hkept
        have hage := (h.2.1 q hq).1
        rw [List.mem_singleton.mp hnew] at hage
        exact absurd hage (lt_irrefl _)
      · exact hkept
    · rw [mem_dropPurposes]
      exact (and_iff_left_of_imp fun hmem => Bool.eq_false_iff.mpr (hgone q hmem)).trans hkept
  · exact hkept

theorem agendaGrants_sent (s : State) : (agendaGrants s).agenda.sent = grantSent s := by
  unfold agendaGrants
  dsimp only
  split
  · rw [(updateWant_sent_idle _).1]
    rfl
  · rfl

/-! ### The grant (R30, R89, R90) -/

theorem requestVector_own (s : State) (others : StationSet) (x : Station) :
    (requestVector s others true).getLsbD x.val = true ↔ others.getLsbD x.val = true ∨ x = s.number := by
  change setHas (setAdd others s.number) x = true ↔ _
  rw [setHas_add, Bool.or_eq_true, decide_eq_true_eq]
  rfl

theorem frameWith_head (s : State) (b : Body) :
    (∀ r, s.record = some r → (frameWith s b).seq = r.seq ∧ (frameWith s b).members = r.members) ∧
      (s.record = none → (frameWith s b).seq = 0 ∧ (frameWith s b).members = 0) := by
  refine ⟨fun r hr => ?_, fun hr => ?_⟩ <;> simp only [frameWith, copySeq, copyMembers, hr] <;> exact ⟨rfl, rfl⟩

/-- Where the purpose p is chosen, what goes before it and cannot be built lapses. -/
theorem lapses_of_chosen {s : State} {p : Purpose} (h : chosenPurpose s = some p) (q : Purpose) :
    lapses s q = true ↔ sendable s q = true ∧ validNow s q = false ∧ goesBefore q p = true := by
  rw [lapses, h, Option.all_some, Bool.and_eq_true, Bool.and_eq_true, Bool.not_eq_true', and_assoc]

theorem lapses_of_none {s : State} (h : chosenPurpose s = none) (q : Purpose) :
    lapses s q = true ↔ sendable s q = true ∧ validNow s q = false := by
  rw [lapses, h, Option.all_none, Bool.and_true, Bool.and_eq_true, Bool.not_eq_true']

theorem foundReplaced_of_not {s : State} (h : ¬(s.control.state = .founding ∧ s.control.foreign = true)) :
    foundReplaced s = s := if_neg h

theorem foundReplaced_of {s : State} (hs : s.control.state = .founding) (hf : s.control.foreign = true) :
    foundReplaced s = changeState .joining s := if_pos ⟨hs, hf⟩

/-- The JOIN that replaces the FOUND is alone in the agenda (R101). -/
theorem replaced_agenda {s : State} (hp : Placed s) (hs : s.control.state = .founding) :
    (changeState .joining s).agenda = { s.agenda with
      purposes := [{ aim := .join, age := s.agenda.nextAge, count := 0, setAside := none }]
      nextAge := s.agenda.nextAge + 1 } := by
  have hfirst := addPurpose_first (a := .join) (s := (markState .joining (leaveState s)).setControl
    { (markState .joining (leaveState s)).control with note := none }) rfl
    (leaveState_purposes_eq_nil hp.purposes (by simp [hs]))
  change (addPurpose .join _).agenda = _
  rw [hfirst]
  change ({ (leaveState s).agenda with
    purposes := [⟨.join, (leaveState s).agenda.nextAge, 0, none⟩]
    nextAge := (leaveState s).agenda.nextAge + 1 } : Agenda) = _
  rw [leaveState_agenda]

theorem replaced_control {s : State} (hp : Placed s) (hs : s.control.state = .founding) :
    (changeState .joining s).control = { s.control with state := .joining, joinReply := none, note := none } := by
  have hreply : s.control.joinReply = none := by
    rw [← Option.not_isSome_iff_eq_none]
    exact fun h => absurd (hs.symm.trans (hp.control.joinReply h)) (by decide)
  have hleft : leftControl s.control = s.control := by simp only [leftControl, hs]
  rw [changeState_control, hleft]
  change ({ s.control with state := .joining, note := none } : Control) =
    { s.control with state := .joining, joinReply := none, note := none }
  rw [← hreply]

theorem frame_eq {f : Frame} {n : Station} {q : Tag} {m : StationSet} {b : Body} (hn : f.sender = n) (hq : f.seq = q)
    (hm : f.members = m) (hb : f.body = b) : f = ⟨n, q, m, b⟩ := by
  subst hn hq hm hb
  rfl

/-- With a JOIN alone in the agenda, free to be sent, a grant builds it (R89, R90). -/
theorem agendaGrants_join {g : State} {age count : Nat} (h : g.agenda.purposes = [⟨.join, age, count, none⟩]) :
    (agendaGrants g).agenda = { g.agenda with sent := some ⟨⟨.join, age, count, none⟩, none⟩ } ∧
      (grantFrame g).body = .join (configuredParams g) := by
  have hchosen : chosenPurpose g = some ⟨.join, age, count, none⟩ := by
    rw [chosenPurpose, h]
    rfl
  have hkept : g.agenda.purposes.filter (fun p => !lapses g p) = g.agenda.purposes := by
    rw [h]
    rfl
  have hclaim : claimStanding g = false := by
    rw [claimStanding, holdsAim, h]
    rfl
  refine ⟨?_, ?_⟩
  · unfold agendaGrants
    dsimp only
    rw [hclaim, Bool.false_and, if_neg Bool.false_ne_true, hkept, grantSent, hchosen]
    rfl
  · rw [grantFrame, hchosen]
    rfl

end Sys2Proof.Machine

namespace Sys2Proof.Proofs

open Sys2Proof.Machine

/-- Settles O24: the grant of the station nearest above the pointer, with and without the FOUND replaced. -/
theorem grantBuildsFirstValidPurpose : Obligations.GrantBuildsFirstValidPurpose := by
  intro s others found hnone hobs hrest hown hnear
  have hclose := arbitrationClose_exec hnone hobs hrest ⟨others, found⟩
  have hwinner : winnerOf s.bus.pointer (requestVector s others true) = some s.number := by
    refine winnerOf_of_nearest ((requestVector_own s others s.number).mpr (.inr rfl)) fun x hx => ?_
    rcases (requestVector_own s others x).mp hx with hx | rfl
    · exact hnear x hx
    · exact le_rfl
  have hwon := arbitrationCloses_won (lines := ⟨others, found⟩) (own := true) hown rfl hwinner
  rw [if_pos ⟨rfl, rfl⟩] at hwon
  rw [hwon] at hclose
  have hbus := granted_bus (requestVector s others true) s
  obtain ⟨hrecord, hclaim, horigin⟩ := granted_frame (requestVector s others true) s
  refine ⟨fun hsound hnot => ?_, fun hplace hs hforeign => ?_⟩
  · have hsame := foundReplaced_of_not hnot
    rw [hsame] at hbus
    have hagenda : (updateRequest (granted (requestVector s others true) s)).agenda = (agendaGrants s).agenda :=
      congrArg (fun u => (agendaGrants u).agenda) hsame
    have hhead := frameWith_head s (((chosenPurpose s).bind (fun p => aimBody s p.aim)).getD .null)
    refine ⟨_, _, grantFrame s, hclose, congrArg Bus.attempt hbus, rfl, rfl, hhead.1, hhead.2,
      fun p hp hsend hvalid hfirst => ?_, fun hno => ?_⟩
    · have hchosen := chosenPurpose_of_first hp hsend hvalid hfirst
      rw [hagenda]
      refine ⟨?_, ?_, fun q hq => ?_⟩
      · rcases grantFrame_body s with ⟨-, hnone⟩ | ⟨p', b, hchosen', hb, hbody⟩
        · rw [hchosen] at hnone
          cases hnone
        · obtain rfl : p = p' := Option.some.inj (hchosen.symm.trans hchosen')
          rw [hb, hbody]
      · rw [agendaGrants_sent, grantSent, hchosen]
        rfl
      · rw [mem_agendaGrants hsound hq, Bool.not_eq_false, lapses_of_chosen hchosen]
    · have hchosen := chosenPurpose_eq_none hno
      rw [hagenda]
      refine ⟨?_, ?_, fun q hq => ?_⟩
      · rw [grantFrame, hchosen]
        rfl
      · rw [agendaGrants_sent, grantSent, hchosen]
        rfl
      · rw [mem_agendaGrants hsound hq, Bool.not_eq_false, lapses_of_none hchosen]
        exact and_iff_left_of_imp fun hsend => Bool.eq_false_iff.mpr fun hvalid => hno q hq ⟨hsend, hvalid⟩
  · have hp := placeSound_iff.mp hplace
    have hto := foundReplaced_of hs hforeign
    have hjoin := replaced_agenda hp hs
    have hnorecord := noRecord_of_founding hp (.inl hs)
    intro join c
    obtain ⟨hagenda, hbody⟩ := agendaGrants_join (g := changeState .joining s) (congrArg Agenda.purposes hjoin)
    obtain ⟨hnumber, hr, hc, hport, -⟩ := changeState_frame .joining s
    obtain ⟨-, -, -, hcontrol', -, -, hport', -⟩ := agendaGrants_frame (changeState .joining s)
    have hblocks : (updateRequest (granted (requestVector s others true) s)).control =
          (agendaGrants (changeState .joining s)).control ∧
        (updateRequest (granted (requestVector s others true) s)).agenda =
          (agendaGrants (changeState .joining s)).agenda ∧
        (updateRequest (granted (requestVector s others true) s)).port =
          (agendaGrants (changeState .joining s)).port := by
      rw [← hto]
      exact ⟨rfl, rfl, rfl⟩
    obtain ⟨hcontrol, hagendas, hports⟩ := hblocks
    refine ⟨_, _, hclose, ?_, ?_, congrArg Bus.attempt hbus, ?_, ?_, hrecord.trans hnorecord, horigin, hclaim⟩
    · rw [hcontrol, hcontrol', replaced_control hp hs]
    · rw [hagendas, hagenda, hjoin]
    · obtain ⟨hseq, hmembers⟩ := (frameWith_head (changeState .joining s)
        (((chosenPurpose (changeState .joining s)).bind (fun p => aimBody (changeState .joining s) p.aim)).getD .null)).2
        (hr.trans hnorecord)
      have hparams : configuredParams (changeState .joining s) = configuredParams s := by
        unfold configuredParams
        rw [hport]
      change some (grantFrame (foundReplaced s)) = _
      rw [hto]
      exact congrArg some (frame_eq hnumber hseq hmembers (hbody.trans (by rw [hparams]; rfl)))
    · rw [hports, hport', hport]

end Sys2Proof.Proofs
end
